-- ==== Sys2Proof/Word.lean ====
section
/-! DEFINITION. The plain data widths of the ZK3120's wires: a byte (R164, R205), a notice word (R208) and a
raw electrode or touch reading (R7, R146). -/

namespace Sys2Proof

/-- One byte of a dock link frame, of a CAN data field or of the settings image (R164, R205, R212). -/
abbrev Byte := BitVec 8

/-- The notice word and the notice mask: one bit for each notice (R208). -/
abbrev NoticeWord := BitVec 16

/-- A raw measurement, 0..4095: a raw count of a site or of the guard (R7), or a touch coordinate (R146). -/
abbrev Count := Fin 4096

/-- A key site's index, row × 12 + column (R5). -/
abbrev SiteIndex := Fin 96

/-- One of the auxiliary lines AUX0..AUX3 (R188). -/
abbrev LineIndex := Fin 4

end Sys2Proof
end

