-- ==== Sys2Proof/Syntax.lean ====
section
/-! DEFINITION. The commands the block takes: one constructor for each row of spec/opcode_table.json, with
the row's operands. A command of a master carries the port it arrives on and its argument
bytes as they stand on the wire (R206), so that every length, range and port check of the spec can be made. -/

namespace Sys2Proof

/-- The two masters (0.1, 0.4). -/
inductive Master where
  | tablet
  | gateway
  deriving DecidableEq, Repr

/-- What a CAN frame on the bus has beside its data: the identifier, of 29 bits where `extended` and else of 11, whether it is a
remote frame, and its format, flexible data-rate or classical (R177, R210). -/
structure CanHeader where
  id : Nat
  extended : Bool
  remote : Bool
  flexible : Bool
  deriving DecidableEq, Repr

/-- A frame on the bus. -/
structure CanFrame where
  header : CanHeader
  data : List Byte
  deriving DecidableEq, Repr

/-- Where a master's command arrives: on the dock link, or on the vehicle port in a CAN frame with this header, whose data field is the
command's code and arguments (R167, R177; log entry 4). -/
inductive Port where
  | dockLink
  | vehiclePort (header : CanHeader)
  deriving DecidableEq, Repr

/-- What one I2C read of the touch controller brings (R145, R146, R148). -/
inductive TouchRead where
  /-- A sample (contact present, xr, yr) (R146). -/
  | sample (present : Bool) (xr yr : Count)
  /-- The controller gave no acknowledge (R148). -/
  | noAck
  deriving DecidableEq, Repr

/-- The commands, in the order of spec/opcode_table.json. -/
inductive Instr where
  /-- POWER_ON (R200). -/
  | powerOn
  /-- SUPPLY_DIP (R200). -/
  | supplyDip
  /-- SUPPLY_RESTORED (R201). -/
  | supplyRestored
  /-- SCAN_START (R11). -/
  | scanStart
  /-- SCAN_COMPLETION (R12, R26): the guard's raw count and the electrodes' readings in site order. -/
  | scanCompletion (guard : Count) (counts : List Count)
  /-- STUCK_EXPIRY of one site (R36). -/
  | stuckExpiry (site : SiteIndex)
  /-- REPEAT_EXPIRY (R111). -/
  | repeatExpiry
  /-- TOUCH_READ_START (R145), with the level of the touch interrupt line. -/
  | touchReadStart (interrupt : Bool)
  /-- TOUCH_READ_COMPLETE (R146). -/
  | touchReadComplete (result : TouchRead)
  /-- GRACE_EXPIRY (R90). -/
  | graceExpiry
  /-- STALENESS_MARK (R79). -/
  | stalenessMark
  /-- VEHICLE_STATE (R77, R177): a frame on the bus. -/
  | vehicleState (frame : CanFrame)
  /-- GATEWAY_COMMAND_DROPPED (R184): a gateway frame at base + 1 without a command code, or one that meets a reply in progress. -/
  | gatewayCommandDropped
  /-- SILENCE_EXPIRY (R178), with whether the report slot's frame is being transmitted at that moment (R181, R182). -/
  | silenceExpiry (onWire : Bool)
  /-- BUS_OFF (R179). -/
  | busOff
  /-- HOLD_OFF_EXPIRY (R179). -/
  | holdOffExpiry
  /-- KEY_REPORT_TX_COMPLETE (R182). -/
  | keyReportTxComplete
  /-- CONTROL_TX_COMPLETE (R183). -/
  | controlTxComplete
  /-- STATUS_MARK (R183). -/
  | statusMark
  /-- AUX_LEVEL_CHANGE (R189): the line's raw level is now `high` or low. -/
  | auxLevelChange (line : LineIndex) (high : Bool)
  /-- AUX_DEBOUNCE_EXPIRY (R189). -/
  | auxDebounceExpiry (line : LineIndex)
  /-- SETTLE_EXPIRY (R141). -/
  | settleExpiry
  /-- LIGHT_PULSE (R151). -/
  | lightPulse
  /-- LIGHT_GATE_END (R151). -/
  | lightGateEnd
  /-- RAMP_MARK (R153). -/
  | rampMark
  /-- TPRES_ASSERTED (R159). -/
  | tpresAsserted
  /-- TPRES_DEASSERTED (R160). -/
  | tpresDeasserted
  /-- PRESENCE_SETTLE_EXPIRY (R159). -/
  | presenceSettleExpiry
  /-- PRESENCE_DROP_EXPIRY (R160). -/
  | presenceDropExpiry
  /-- STALE_EXPIRY (R161). -/
  | staleExpiry
  /-- DOCK_FRAME_RECEIVED (R161): the bytes of a whole frame with this TYPE and payload arrive. -/
  | dockFrameReceived (type : Byte) (payload : List Byte)
  /-- STANDBY_TIMER_EXPIRY (R202). -/
  | standbyTimerExpiry
  /-- PAGE_WRITE_END (R197), with the outcome of the page's verification. -/
  | pageWriteEnd (verified : Bool)
  /-- GET_REPORTS (R171). -/
  | getReports (port : Port) (args : List Byte)
  /-- GET_STATUS (R172). -/
  | getStatus (port : Port) (args : List Byte)
  /-- GET_COUNTERS (R173). -/
  | getCounters (port : Port) (args : List Byte)
  /-- CLEAR_NOTICES (R170, R186). -/
  | clearNotices (port : Port) (args : List Byte)
  /-- SET_NOTICE_MASK (R170, R186). -/
  | setNoticeMask (port : Port) (args : List Byte)
  /-- RESET_PORT (R174). -/
  | resetPort (port : Port) (args : List Byte)
  /-- SET_ROUTE (R56). -/
  | setRoute (port : Port) (args : List Byte)
  /-- SET_KEY (R20). -/
  | setKey (port : Port) (args : List Byte)
  /-- SET_TRIM (R44). -/
  | setTrim (port : Port) (args : List Byte)
  /-- SET_QUALIFY (R46). -/
  | setQualify (port : Port) (args : List Byte)
  /-- SET_REPEAT (R108). -/
  | setRepeat (port : Port) (args : List Byte)
  /-- SET_BRIGHTNESS (R154). -/
  | setBrightness (port : Port) (args : List Byte)
  /-- REQUEST_DISPLAY (R142). -/
  | requestDisplay (port : Port) (args : List Byte)
  /-- SET_TOUCH_CAL (R149). -/
  | setTouchCal (port : Port) (args : List Byte)
  /-- SET_INSTALL (R190). -/
  | setInstall (port : Port) (args : List Byte)
  /-- SAVE_SETTINGS (R196). -/
  | saveSettings (port : Port) (args : List Byte)
  /-- LOAD_SETTINGS (R195). -/
  | loadSettings (port : Port) (args : List Byte)
  /-- SNAPSHOT_SELECT (R49). -/
  | snapshotSelect (port : Port) (args : List Byte)
  /-- GET_SNAPSHOT (R50). -/
  | getSnapshot (port : Port) (args : List Byte)
  /-- ROUTE (R58, R59). -/
  | route (port : Port) (args : List Byte)
  /-- EDIT_BEGIN (R62). -/
  | editBegin (port : Port) (args : List Byte)
  /-- EDIT_APPLY (R62). -/
  | editApply (port : Port) (args : List Byte)
  /-- EDIT_ABANDON (R63). -/
  | editAbandon (port : Port) (args : List Byte)
  /-- LOCKOUT_MODE (R85). -/
  | lockoutMode (port : Port) (args : List Byte)
  /-- LOCKOUT_PARAMS (R86). -/
  | lockoutParams (port : Port) (args : List Byte)
  /-- DISPLAY_HOLD (R143). -/
  | displayHold (port : Port) (args : List Byte)
  /-- NIGHT_CAP (R155). -/
  | nightCap (port : Port) (args : List Byte)
  /-- CONFIG_LOCK (R199). -/
  | configLock (port : Port) (args : List Byte)
  /-- STATUS_REQUEST (R185). -/
  | statusRequest (port : Port) (args : List Byte)
  /-- RESET_PART (R187). -/
  | resetPart (port : Port) (args : List Byte)
  /-- TIMEBASE_TICK (R2). -/
  | timebaseTick
  /-- DOCK_LINK_BYTE_RECEIVED (R165): one byte, and, where the millisecond counter cannot tell a gap of more than 5 ms from a
shorter one, whether it is one (log entry 7). -/
  | dockLinkByteReceived (value : Byte) (afterGap : Bool)
  /-- UNKNOWN_COMMAND (R167, R184): a command code that names no command of the port. -/
  | unknownCommand (port : Port) (code : Byte) (args : List Byte)
  deriving DecidableEq, Repr

end Sys2Proof
end

