-- ==== Sys2Proof/Decode.lean ====
section
/-! DEFINITION. The block has no instruction words: no row of spec/opcode_table.json gives bits, so no word spells a
command. (The masters' command frames are not decoded here: the receiver of Machine/Dock.lean and the field readers
of Machine/Operands.lean read them, as R164 to R167 and R205 to R208 say.) -/

namespace Sys2Proof

/-- The command that a word spells by the table's bits. No row of the table gives bits, so there is none. -/
def decodeTableWord (_nbits _w : Nat) : Option Instr := none

end Sys2Proof
end

