-- ==== Sys2Proof/Config.lean ====
section
/-! DEFINITION. What the part fixes once for all (capacities, lengths of timers, code numbers of the commands) and the one
value the spec leaves open. -/

namespace Sys2Proof.Config

/-- The byte left at a place of a page whose write was cut off or failed its verification: the spec says only
that such a page is not sound (R192, R197, R198). No value is known of it; `State.free` numbers the draws (log entry 5). -/
opaque freeByte : Nat → Byte

/-- The Timebase counter counts modulo 65,536 (R2). -/
def stampModulus : Nat := 65536

/-- The counters stop at 65,535 (R4). -/
def counterMax : Nat := 65535

/-- The number of key sites (R5). -/
def siteCount : Nat := 96

/-- The number of route classes (R52). -/
def classCount : Nat := 16

/-- The Held-Key Table holds up to 12 entries (R96). -/
def tableSize : Nat := 12

/-- Capacity of the tablet report queue (R118). -/
def tabletCapacity : Nat := 32

/-- Capacity of the gateway report queue (R118). -/
def gatewayCapacity : Nat := 16

/-- The receive buffer holds 256 bytes (R166). -/
def receiveBytes : Nat := 256

/-- The longest dock link payload (R164). -/
def maxPayload : Nat := 128

/-- The period of the staleness marks, in ms (R79). -/
def stalenessPeriod : Nat := 125

/-- The period of the vehicle port's status marks, in ms (R183). -/
def statusPeriod : Nat := 1000

/-- The length of a light gate, in ms (R151). -/
def gatePeriod : Nat := 100

/-- The period of the backlight's ramp marks, in ms (R153). -/
def rampPeriod : Nat := 20

/-- The scan period in STANDBY, in ms (R14). -/
def standbyPeriod : Nat := 64

/-- The length of a page write, in ms (R197). -/
def pageWriteTime : Nat := 5

/-- The identifier of a valid settings image (R192). -/
def identifier : Nat := 0x4E7B

/-- The command codes of the dock link (R206). -/
def tabletCodes : List Nat :=
  [0x01, 0x02, 0x03, 0x04, 0x05, 0x06, 0x10, 0x11, 0x12, 0x13, 0x14, 0x15, 0x16, 0x17, 0x18, 0x19, 0x1A, 0x1B, 0x1C]

/-- The command codes that only the gateway may send (R206). -/
def gatewayOnlyCodes : List Nat :=
  [0x40, 0x41, 0x42, 0x43, 0x44, 0x45, 0x46, 0x47, 0x48, 0x49, 0x4A]

/-- The codes accepted on both ports: CLEAR_NOTICES, SET_NOTICE_MASK and SAVE_SETTINGS (R206). -/
def sharedCodes : List Nat := [0x04, 0x05, 0x19]

end Sys2Proof.Config
end

