-- ==== Sys2Proof/Machine/Types.lean ====
section
/-! DEFINITION. The named values and the records that the blocks of the part hold (0.3, 0.4, R208). -/

namespace Sys2Proof.Machine

/-! ### Timers -/

/-- A running timer: the Timebase count at its start and its length in ms (R2). A stopped timer is `none`. -/
structure Timer where
  start : Nat
  span : Nat
  deriving DecidableEq, Repr

/-! ### Status codes and notices -/

/-- The status codes (R3). -/
inductive Status where
  | ok | busy | locked | range | illegal | denied | state | unknown | format
  deriving DecidableEq, Repr

/-- The thirteen notices (R169, R186). -/
inductive Notice where
  | reset | overflow | rollover | stuck | keyFault | wet | lockout | display | storeDone | storeFail
  | storeDefaulted | touchFault | trimRange
  deriving DecidableEq, Repr

/-! ### Key Field Scanner and Key Qualifier -/

/-- The key site configuration record (R8). -/
structure SiteRecord where
  enabled : Bool
  code : Nat
  cls : Nat
  thr : Nat
  hyst : Nat
  offset : Int
  gain : Nat
  deriving DecidableEq, Repr

/-- An offset and gain pair (R8, R23). -/
structure Trim where
  offset : Int
  gain : Nat
  deriving DecidableEq, Repr

/-- The qualification states of a site (R23). -/
inductive SiteState where
  | off | idle | candidate | pressed | releasing | fault
  deriving DecidableEq, Repr

/-- The qualification record of a site (R23); `base` is in sixteenths of a count. -/
structure SiteQual where
  state : SiteState
  base : Nat
  reseed : Bool
  debounce : Nat
  negRun : Nat
  railRun : Nat
  clearRun : Nat
  pressTime : Option Nat
  trim : Option Trim
  deriving DecidableEq, Repr

/-- The guard's qualification state and the WET condition (R23, R40, R41). -/
structure GuardState where
  base : Nat
  reseed : Bool
  wet : Bool
  wetRun : Nat
  dryRun : Nat
  negRun : Nat
  deriving DecidableEq, Repr

/-- The qualification settings (R25); the stuck limit is in seconds. -/
structure QualifySettings where
  period : Nat
  np : Nat
  nr : Nat
  rate : Nat
  common : Nat
  stuck : Nat
  guardThr : Nat
  wetMargin : Nat
  deriving DecidableEq, Repr

/-- The snapshot record (R50). -/
structure Snapshot where
  site : Nat
  time : Nat
  state : SiteState
  rejected : Bool
  raw : Option Nat
  corrected : Option Nat
  base : Option Nat
  delta : Option Int
  deriving DecidableEq, Repr

/-- The Key Field Scanner (R8, R11 to R14): the period in force, the time to the next scan start, and the measured
set of the scan in progress. -/
structure Kfs where
  records : List SiteRecord
  period : Nat
  nextStart : Timer
  measured : Option (List Nat)
  standbyScan : Bool
  deriving DecidableEq, Repr

/-- The Key Qualifier (R23). -/
structure Kq where
  quals : List SiteQual
  guard : GuardState
  settings : QualifySettings
  rejectedScans : Nat
  stuckExpiries : Nat
  faultEntries : Nat
  snapSelect : Nat
  snapshot : Option Snapshot
  deriving DecidableEq, Repr

/-! ### Class Route Map -/

/-- The routes of a class (R52). -/
inductive Route where
  | none | tablet | gateway | both | follow
  deriving DecidableEq, Repr

/-- A class entry (R52). -/
structure ClassEntry where
  route : Route
  repeats : Bool
  exempt : Bool
  divert : Bool
  locked : Bool
  deriving DecidableEq, Repr

/-- The Class Route Map (R52): the edit state is OPEN exactly while there is a shadow map. -/
structure Crm where
  live : List ClassEntry
  shadow : Option (List ClassEntry)
  deriving DecidableEq, Repr

/-! ### Motion Lockout Unit -/

/-- The five vehicle signals, each a value or not available (R75). The last vehicle state has the same fields (R77). -/
structure Signals where
  speed : Option Nat
  reverse : Option Bool
  ignition : Option Bool
  brake : Option Bool
  night : Option Bool
  deriving DecidableEq, Repr

/-- The motion states (R81). -/
inductive Motion where
  | parked | moving | unknown
  deriving DecidableEq, Repr

/-- The lockout modes (R84). -/
inductive LockMode where
  | off | on | onLocked
  deriving DecidableEq, Repr

/-- The lockout states OPEN, ENGAGING and ENGAGED (R87). -/
inductive Lockout where
  | opened | engaging | engaged
  deriving DecidableEq, Repr

/-- The four lockout parameters (R84). -/
structure LockParams where
  son : Nat
  soff : Nat
  grace : Nat
  brakeRequired : Bool
  deriving DecidableEq, Repr

/-- The Motion Lockout Unit (R75 to R93). `conditionTaken` says that the first scan completion after the full reset
has come, at which the lockout condition is first taken (R93). -/
structure Mlu where
  signals : Signals
  last : Signals
  staleness : Nat
  received : Bool
  stalenessMark : Timer
  motion : Motion
  mode : LockMode
  params : LockParams
  lockout : Lockout
  graceTimer : Option Timer
  conditionTaken : Bool
  deriving DecidableEq, Repr

/-! ### Key Router and report queues -/

/-- A subset of {TABLET, GATEWAY}: an owner set or an offer set (0.4, R65, R96). -/
structure Owners where
  tablet : Bool
  gateway : Bool
  deriving DecidableEq, Repr

/-- The source of a held entry (R96). -/
inductive Source where
  | site (index : Nat)
  | touch
  deriving DecidableEq, Repr

/-- A held entry (R96). -/
structure HeldEntry where
  source : Source
  code : Nat
  cls : Nat
  seq : Nat
  owners : Owners
  pressTime : Nat
  deriving DecidableEq, Repr

/-- The Key Router (R96, R97, R108, R110, R115). The table is in press order, oldest first; the repeat candidate is
named by its sequence number. -/
structure Kr where
  table : List HeldEntry
  seq : Nat
  candidate : Option Nat
  repeatTimer : Option Timer
  delay : Nat
  interval : Nat
  rollovers : Nat
  repeatDrops : Nat
  deriving DecidableEq, Repr

/-- The report kinds (R119). -/
inductive Kind where
  | press | release | repetition | forcedRelease | touchDown | touchMove | touchUp | forcedTouchUp
  deriving DecidableEq, Repr

/-- The reasons of a forced release (R120). -/
inductive Reason where
  | lockout | stuck | fault | config | touch
  deriving DecidableEq, Repr

/-- The fields that only key reports, or only touch reports, carry (R119). -/
inductive Body where
  | key (code cls : Nat)
  | touch (x y : Nat)
  deriving DecidableEq, Repr

/-- A report record (R119). -/
structure Report where
  kind : Kind
  seq : Nat
  time : Nat
  gap : Bool
  body : Body
  reason : Option Reason
  deriving DecidableEq, Repr

/-- A report queue (R118), oldest report first. `headHeld` says that the vehicle port's report slot holds the head (R130);
it stays no in the tablet queue. -/
structure Queue where
  reports : List Report
  reserved : Nat
  draining : Bool
  gap : Bool
  headHeld : Bool
  refusals : Nat
  moveDrops : Nat
  deriving DecidableEq, Repr

/-! ### Display, touch panel and backlight -/

/-- The display sources (R137). -/
inductive Picture where
  | blank | tablet | gateway
  deriving DecidableEq, Repr

/-- The Display Source Selector (R137): the switch state is SWITCHING exactly while the settle timer runs. -/
structure Dss where
  current : Picture
  target : Picture
  settle : Option Timer
  request : Bool
  hold : Bool
  deriving DecidableEq, Repr

/-- The contact states (R145). -/
inductive Contact where
  | none | down | fault
  deriving DecidableEq, Repr

/-- The touch calibration (R149). -/
structure TouchCal where
  xmin : Nat
  xmax : Nat
  ymin : Nat
  ymax : Nat
  deriving DecidableEq, Repr

/-- The Touch Panel Interface (R145). `lastStart` is the start time of the last read; `retry` runs to the retry time. -/
structure Tpi where
  contact : Contact
  last : Option (Nat × Nat)
  failRun : Nat
  cal : TouchCal
  reading : Bool
  lastStart : Option Nat
  retry : Option Timer
  faults : Nat
  interrupt : Bool
  deriving DecidableEq, Repr

/-- The Backlight Regulator (R151 to R155). -/
structure Blr where
  light : Nat
  gateCount : Nat
  gateEnd : Timer
  rampMark : Timer
  gain : Nat
  nightCap : Nat
  target : Nat
  level : Nat
  deriving DecidableEq, Repr

/-! ### Dock Link Port -/

/-- The dock link states (R158). -/
inductive Link where
  | absent | settling | waiting | up | stale
  deriving DecidableEq, Repr

/-- A valid frame in the receive buffer (R164, R165). -/
structure Frame where
  type : Byte
  payload : List Byte
  deriving DecidableEq, Repr

/-- The Dock Link Port (R158 to R175). `assembly` holds the bytes of the frame in assembly from SYNC on, `none` while the
receiver hunts; `quiet` the ms since the last byte, counted up to 6 (R165); `frames` the valid frames not yet taken, oldest
first; `reply` the reply frame given to the transmit line; `tpres` the level of the presence line. -/
structure Dlp where
  link : Link
  tpres : Bool
  settleTimer : Option Timer
  dropTimer : Option Timer
  staleTimer : Option Timer
  assembly : Option (List Byte)
  quiet : Nat
  frames : List Frame
  reply : Option (List Byte)
  notices : NoticeWord
  mask : NoticeWord
  crcErrors : Nat
  lengthErrors : Nat
  gapErrors : Nat
  overruns : Nat
  portResets : Nat
  deriving DecidableEq, Repr

/-! ### Vehicle Port and auxiliary lines -/

/-- The CAN bit rates, in kbit/s (R176). -/
inductive Rate where
  | r250 | r500
  deriving DecidableEq, Repr

/-- The CAN frame formats (R210). -/
inductive CanFormat where
  | classical | flexible
  deriving DecidableEq, Repr

/-- A frame that the part sends: its 11-bit identifier (R176), its format, the rate of its data phase (R210), and its data field. -/
structure BusFrame where
  id : Nat
  format : CanFormat
  rate : Rate
  data : List Byte
  deriving DecidableEq, Repr

/-- A frame in the control slot (R181). -/
inductive ControlFrame where
  | segment (frame : BusFrame)
  | partStatus (frame : BusFrame)
  deriving DecidableEq, Repr

/-- The reply in progress (R183): the segments not yet loaded into the control slot, and whether it answers a
RESET_PART, whose full reset comes with the reply's end (R187). -/
structure Reply where
  rest : List (List Byte)
  resets : Bool
  deriving DecidableEq, Repr

/-- The Vehicle Port (R176). `heldOff` is the controller condition HELD_OFF. -/
structure Vp where
  online : Bool
  heldOff : Bool
  silence : Option Timer
  holdOff : Option Timer
  reportSlot : Option BusFrame
  controlSlot : Option ControlFrame
  reply : Option Reply
  statusDue : Bool
  statusMark : Timer
  notices : NoticeWord
  mask : NoticeWord
  stateFormats : Nat
  commandDrops : Nat
  busOffs : Nat
  offlines : Nat
  base : Nat
  rate : Rate
  deriving DecidableEq, Repr

/-- The modes of an auxiliary line (R188). -/
inductive LineMode where
  | disabled | inputHigh | inputLow | outputLockout | outputFault
  deriving DecidableEq, Repr

/-- The functions of an input line (R188). -/
inductive LineFunction where
  | none | brake | reverse | ignition | night
  deriving DecidableEq, Repr

/-- A signal's source, CAN or AUX (R76). -/
inductive SignalSource where
  | can | aux
  deriving DecidableEq, Repr

/-- The mode and function of one line (R188). -/
structure LineSetup where
  mode : LineMode
  function : LineFunction
  deriving DecidableEq, Repr

/-- The installation (R190, R191). -/
structure Installation where
  base : Nat
  rate : Rate
  reverse : SignalSource
  ignition : SignalSource
  brake : SignalSource
  night : SignalSource
  lines : List LineSetup
  deriving DecidableEq, Repr

/-- One auxiliary line (R188, R189): the raw level at the pin, the debounced level, the debounce timer. -/
structure Line where
  raw : Bool
  debounced : Option Bool
  timer : Option Timer
  deriving DecidableEq, Repr

/-- The Auxiliary Line Block: the installation and the four lines (R188 to R191). -/
structure Axl where
  install : Installation
  lines : List Line
  deriving DecidableEq, Repr

/-! ### Settings Store -/

/-- A complete set of the stored settings (R192). -/
structure Settings where
  sites : List SiteRecord
  qualify : QualifySettings
  classes : List ClassEntry
  delay : Nat
  interval : Nat
  mode : LockMode
  params : LockParams
  cal : TouchCal
  gain : Nat
  nightCap : Nat
  install : Installation
  deriving DecidableEq, Repr

/-- The settings image's bytes: (address, byte) pairs, addresses strictly rising, an unlisted byte reading 00h. -/
abbrev Memory := List Host.Cell

/-- A save in progress (R192): the copy being written, the number of the present write, 1..17, and its timer. -/
structure Save where
  copy : Settings
  write : Nat
  timer : Timer
  deriving DecidableEq, Repr

/-- The causes of a full reset (R200). -/
inductive ResetCause where
  | powerOn | supplyDip | commanded
  deriving DecidableEq, Repr

/-- The Settings Store (R192, R200, R202): the store state is BUSY exactly while a save is in progress. -/
structure Sst where
  image : Memory
  save : Option Save
  defaultsInUse : Bool
  storedGain : Nat
  configLock : Bool
  cause : ResetCause
  standby : Bool
  standbyTimer : Option Timer
  deriving DecidableEq, Repr

/-! ### Output pins and the supply -/

/-- The outputs the part drives: the attention line (R168), the video input that VSEL selects (R137), and whether each of
AUX0..AUX3 is pulled to its active level (R188), and the duty of BLPWM in 255ths (R153). -/
structure Pins where
  tatn : Bool
  vsel : Master
  lamps : List Bool
  blpwm : Nat
  deriving DecidableEq, Repr

end Sys2Proof.Machine
end

