-- ==== Sys2Proof/Machine/Defaults.lean ====
section
/-! DEFINITION. The factory defaults of the settings, as the rule of each block gives them. -/

namespace Sys2Proof.Machine

/-- The factory default of a site's record (R8): sites 0..83 are enabled, and the code is the site index. -/
def defaultSite (index : Nat) : SiteRecord :=
  { enabled := index < 84, code := index, cls := 0, thr := 60, hyst := 20, offset := 0, gain := 1024 }

/-- The factory defaults of the qualification settings (R25). -/
def defaultQualify : QualifySettings :=
  { period := 12, np := 2, nr := 2, rate := 6, common := 5, stuck := 20, guardThr := 80, wetMargin := 40 }

/-- The factory default of a class entry (R53). No lock is stored. -/
def defaultClass (cls : Nat) : ClassEntry :=
  if cls = 14 then { route := .gateway, repeats := false, exempt := true, divert := false, locked := false }
  else if cls = 15 then { route := .follow, repeats := false, exempt := false, divert := false, locked := false }
  else { route := .tablet, repeats := cls < 2, exempt := false, divert := false, locked := false }

/-- The factory defaults of the lockout parameters (R84). -/
def defaultParams : LockParams := { son := 80, soff := 30, grace := 2000, brakeRequired := false }

/-- The factory default of the touch calibration (R149). -/
def defaultCal : TouchCal := { xmin := 0, xmax := 4095, ymin := 0, ymax := 4095 }

/-- A line's factory default, and what an unsound line setup becomes at a load (R191). -/
def disabledLine : LineSetup := { mode := .disabled, function := .none }

/-- The factory default of the installation (R191). -/
def defaultInstallation : Installation :=
  { base := 0x5C0, rate := .r500, reverse := .can, ignition := .can, brake := .can, night := .can
    lines := List.replicate 4 disabledLine }

/-- The factory defaults of every stored setting (R8, R25, R53, R84, R108, R149, R154, R155, R191). -/
def factorySettings : Settings :=
  { sites := (List.range 96).map defaultSite
    qualify := defaultQualify
    classes := (List.range 16).map defaultClass
    delay := 500
    interval := 33
    mode := .on
    params := defaultParams
    cal := defaultCal
    gain := 128
    nightCap := 96
    install := defaultInstallation }

/-- A site's qualification record after a full reset (R24). -/
def resetQual (r : SiteRecord) : SiteQual :=
  { state := if r.enabled then .idle else .off, base := 0, reseed := true, debounce := 0, negRun := 0
    railRun := 0, clearRun := 0, pressTime := none, trim := none }

end Sys2Proof.Machine
end

