-- ==== Sys2Proof/Machine/State.lean ====
section
/-! DEFINITION. The state of the part: one field for each block of 0.3, the output pins, the queue of waiting commands and
the model's own count of free values; the reasons a step can stop; and the state after a full reset. -/

namespace Sys2Proof.Machine

/-- The part. -/
structure State where
  /-- Key Field Scanner (Section 1). -/
  kfs : Kfs
  /-- Key Qualifier (Section 2). -/
  kq : Kq
  /-- Class Route Map (Section 3). -/
  crm : Crm
  /-- Motion Lockout Unit (Section 4). -/
  mlu : Mlu
  /-- Key Router (Section 5). -/
  kr : Kr
  /-- Tablet Report Queue (Section 6). -/
  tq : Queue
  /-- Gateway Report Queue (Section 6). -/
  gq : Queue
  /-- Display Source Selector (Section 7). -/
  dss : Dss
  /-- Touch Panel Interface (Section 7). -/
  tpi : Tpi
  /-- Backlight Regulator (Section 7). -/
  blr : Blr
  /-- Dock Link Port (Section 8). -/
  dlp : Dlp
  /-- Vehicle Port (Section 9). -/
  vp : Vp
  /-- Auxiliary Line Block (Section 9). -/
  axl : Axl
  /-- Settings Store (Section 10). -/
  sst : Sst
  /-- The Timebase's millisecond counter (R2). -/
  clock : Nat
  /-- A supply dip holds the part in reset (R200). -/
  held : Bool
  /-- The output pins. -/
  pins : Pins
  /-- The model's own: how many free bytes have been drawn from `Config.freeByte` (log entry 5). -/
  free : Nat
  /-- The commands that wait, first in, first out. -/
  pending : List Instr
  deriving DecidableEq, Repr

/-- The reasons a step faults: none. The spec gives every command an effect in every state, and nothing stops the part. -/
inductive Fault where
  deriving DecidableEq, Repr

/-- The reasons a step is refused. -/
inductive Refusal where
  /-- Raised by `exec` alone, for a row of the table without a meaning; no row is left without one (safe). -/
  | notModelled (mnemonic : String)
  deriving DecidableEq, Repr

/-- A report queue after a full reset (R136). -/
def emptyQueue : Queue :=
  { reports := [], reserved := 0, draining := false, gap := false, headHeld := false, refusals := 0, moveDrops := 0 }

/-- No vehicle signal is available, and no last vehicle state is held (R79, R93). -/
def noSignals : Signals := { speed := none, reverse := none, ignition := none, brake := none, night := none }

/-- The machine right after a full reset: every field at the value that the reset tables give (R16, R24, R54, R93, R117, R136,
R157, R175, R191, R192, R201), with the factory settings that a load takes from an image never written (R193; log entry 2), the cause
POWER_ON, and RESET and STORE_DEFAULTED set for both masters (bits 0 and 10). -/
def State.reset : State :=
  { kfs :=
      { records := factorySettings.sites, period := defaultQualify.period
        nextStart := { start := 0, span := 0 }, measured := none, standbyScan := false }
    kq :=
      { quals := factorySettings.sites.map resetQual
        guard := { base := 0, reseed := true, wet := false, wetRun := 0, dryRun := 0, negRun := 0 }
        settings := defaultQualify, rejectedScans := 0, stuckExpiries := 0, faultEntries := 0
        snapSelect := 0, snapshot := none }
    crm := { live := factorySettings.classes, shadow := none }
    mlu :=
      { signals := noSignals, last := noSignals, staleness := 4, received := false
        stalenessMark := { start := 0, span := Config.stalenessPeriod }
        motion := .unknown, mode := .on, params := defaultParams, lockout := .opened, graceTimer := none
        conditionTaken := false }
    kr :=
      { table := [], seq := 0, candidate := none, repeatTimer := none, delay := 500, interval := 33
        rollovers := 0, repeatDrops := 0 }
    tq := emptyQueue
    gq := emptyQueue
    dss := { current := .blank, target := .blank, settle := none, request := false, hold := false }
    tpi :=
      { contact := .none, last := none, failRun := 0, cal := defaultCal, reading := false, lastStart := none
        retry := none, faults := 0, interrupt := false }
    blr :=
      { light := 0, gateCount := 0, gateEnd := { start := 0, span := Config.gatePeriod }
        rampMark := { start := 0, span := Config.rampPeriod }, gain := 128, nightCap := 96, target := 0, level := 0 }
    dlp :=
      { link := .absent, tpres := false, settleTimer := none, dropTimer := none, staleTimer := none
        assembly := none, quiet := 0, frames := [], reply := none, notices := 0x0401#16, mask := 0x1FFF#16
        crcErrors := 0, lengthErrors := 0, gapErrors := 0, overruns := 0, portResets := 0 }
    vp :=
      { online := false, heldOff := false, silence := none, holdOff := none, reportSlot := none, controlSlot := none
        reply := none, statusDue := true, statusMark := { start := 0, span := Config.statusPeriod }
        notices := 0x0401#16, mask := 0x1FFF#16, stateFormats := 0, commandDrops := 0, busOffs := 0, offlines := 0
        base := 0x5C0, rate := .r500 }
    axl :=
      { install := defaultInstallation, lines := List.replicate 4 { raw := false, debounced := none, timer := none } }
    sst :=
      { image := [], save := none, defaultsInUse := true, storedGain := 128, configLock := false, cause := .powerOn
        standby := false, standbyTimer := none }
    clock := 0
    held := false
    pins := { tatn := false, vsel := .tablet, lamps := [false, false, false, false], blpwm := 0 }
    free := 0
    pending := [] }

end Sys2Proof.Machine
end

