-- ==== Sys2Proof/Machine/Ops.lean ====
section
/-! DEFINITION. The operations that every block uses: replacing a block of the state, counters, the Timebase and timers, notices,
byte strings and their check values, the settings memory, and the frame every event has. -/

namespace Sys2Proof.Machine

/-! ### Replacing one block of the state -/

/-- The state with the Key Field Scanner replaced. -/
def State.setKfs (s : State) (v : Kfs) : State := { s with kfs := v }

/-- The state with the Key Qualifier replaced. -/
def State.setKq (s : State) (v : Kq) : State := { s with kq := v }

/-- The state with the Class Route Map replaced. -/
def State.setCrm (s : State) (v : Crm) : State := { s with crm := v }

/-- The state with the Motion Lockout Unit replaced. -/
def State.setMlu (s : State) (v : Mlu) : State := { s with mlu := v }

/-- The state with the Key Router replaced. -/
def State.setKr (s : State) (v : Kr) : State := { s with kr := v }

/-- The state with the tablet report queue replaced. -/
def State.setTq (s : State) (v : Queue) : State := { s with tq := v }

/-- The state with the gateway report queue replaced. -/
def State.setGq (s : State) (v : Queue) : State := { s with gq := v }

/-- The state with the Display Source Selector replaced. -/
def State.setDss (s : State) (v : Dss) : State := { s with dss := v }

/-- The state with the Touch Panel Interface replaced. -/
def State.setTpi (s : State) (v : Tpi) : State := { s with tpi := v }

/-- The state with the Backlight Regulator replaced. -/
def State.setBlr (s : State) (v : Blr) : State := { s with blr := v }

/-- The state with the Dock Link Port replaced. -/
def State.setDlp (s : State) (v : Dlp) : State := { s with dlp := v }

/-- The state with the Vehicle Port replaced. -/
def State.setVp (s : State) (v : Vp) : State := { s with vp := v }

/-- The state with the Auxiliary Line Block replaced. -/
def State.setAxl (s : State) (v : Axl) : State := { s with axl := v }

/-- The state with the Settings Store replaced. -/
def State.setSst (s : State) (v : Sst) : State := { s with sst := v }

/-- The state with the millisecond counter replaced. -/
def State.setClock (s : State) (v : Nat) : State := { s with clock := v }

/-- The state with the hold of a supply dip replaced. -/
def State.setHeld (s : State) (v : Bool) : State := { s with held := v }

/-- The state with the output pins replaced. -/
def State.setPins (s : State) (v : Pins) : State := { s with pins := v }

/-- The state with the count of free values replaced. -/
def State.setFree (s : State) (v : Nat) : State := { s with free := v }

/-- The state with the queue of waiting commands replaced. -/
def State.setPending (s : State) (v : List Instr) : State := { s with pending := v }

/-! ### Numbers -/

/-- A counter rises by 1 and stops at 65,535 (R4). -/
def bump (c : Nat) : Nat := min (c + 1) Config.counterMax

/-- A counter rises by `n` and stops at 65,535 (R4). -/
def bumpBy (c n : Nat) : Nat := min (c + n) Config.counterMax

/-- "Clamped to lo..hi" (R1). -/
def clampInt (lo hi x : Int) : Int := max lo (min hi x)

/-! ### The Timebase and timers (R2) -/

/-- The ms from a time stamp to the count `now`, modulo 65,536 (R2). -/
def elapsed (now since : Nat) : Nat := (now + Config.stampModulus - since % Config.stampModulus) % Config.stampModulus

/-- The count at which a timer expires (R2, R87). -/
def Timer.expiry (t : Timer) : Nat := (t.start + t.span) % Config.stampModulus

/-- The timer's length has passed (R2). -/
def Timer.due (t : Timer) (now : Nat) : Bool := t.span ≤ elapsed now t.start

/-- The ms until the timer expires, 0 once it has (R95). -/
def Timer.remaining (t : Timer) (now : Nat) : Nat := t.span - elapsed now t.start

/-- The timer of the next interval of a schedule, or of a repeat: it starts at this one's expiry (R11, R79, R111). -/
def Timer.next (t : Timer) (span : Nat) : Timer := { start := t.expiry, span := span }

/-- A timer is running and its time has come. -/
def dueTimer (t : Option Timer) (now : Nat) : Bool :=
  match t with
  | some t => t.due now
  | none => false

/-- A timer started at the present count. -/
def startTimer (s : State) (span : Nat) : Timer := { start := s.clock, span := span }

/-! ### Masters and owner sets -/

/-- The set holds the master. -/
def Owners.has (o : Owners) : Master → Bool
  | .tablet => o.tablet
  | .gateway => o.gateway

/-- The set without the master. -/
def Owners.without (o : Owners) : Master → Owners
  | .tablet => { o with tablet := false }
  | .gateway => { o with gateway := false }

/-- The empty set. -/
def Owners.isEmpty (o : Owners) : Bool := !o.tablet && !o.gateway

/-! ### Notices (R169, R186) -/

/-- The notice's bit position (R208). -/
def noticeBit : Notice → Nat
  | .reset => 0 | .overflow => 1 | .rollover => 2 | .stuck => 3 | .keyFault => 4 | .wet => 5 | .lockout => 6
  | .display => 7 | .storeDone => 8 | .storeFail => 9 | .storeDefaulted => 10 | .touchFault => 11 | .trimRange => 12

/-- The notice word with this one notice (R208). -/
def noticeWord (n : Notice) : NoticeWord := 1#16 <<< noticeBit n

/-- All thirteen notices: the mask with all notices enabled (R162, R191). -/
def allNotices : NoticeWord := 0x1FFF#16

/-- The tablet's notices and mask are replaced (R169). -/
def setTabletNotices (notices mask : NoticeWord) (s : State) : State :=
  s.setDlp { s.dlp with notices := notices, mask := mask }

/-- The gateway's notices and mask are replaced; where the notices taken with the mask go from none set to some set, the
status due flag is set (R186). -/
def setGatewayNotices (notices mask : NoticeWord) (s : State) : State :=
  s.setVp
    { s.vp with
      notices := notices
      mask := mask
      statusDue := s.vp.statusDue || (s.vp.notices &&& s.vp.mask == 0 && notices &&& mask != 0) }

/-- An event sets a notice for one master (R169, R186). -/
def raiseFor (m : Master) (n : Notice) (s : State) : State :=
  match m with
  | .tablet => setTabletNotices (s.dlp.notices ||| noticeWord n) s.dlp.mask s
  | .gateway => setGatewayNotices (s.vp.notices ||| noticeWord n) s.vp.mask s

/-- An event sets a notice for both masters (R169). -/
def raiseBoth (n : Notice) (s : State) : State := raiseFor .gateway n (raiseFor .tablet n s)

/-- An event sets a notice for both masters if the condition holds. -/
def raiseBothIf (b : Bool) (n : Notice) (s : State) : State := if b then raiseBoth n s else s

/-! ### Byte strings (R205) -/

/-- A one-byte field. -/
def byte (n : Nat) : Byte := BitVec.ofNat 8 n

/-- A two-byte field, most significant byte first (R205). -/
def word (n : Nat) : List Byte := [byte (n / 256), byte n]

/-- A number in two's complement in 16 bits (R205). -/
def word16 (x : Int) : List Byte := word (BitVec.ofInt 16 x).toNat

/-- A byte string cut or filled with 00h to a length (R205: unused positions are sent as 00h). -/
def padTo (n : Nat) (bs : List Byte) : List Byte := (bs ++ List.replicate n 0#8).take n

/-- One bit of the check value's division: generator 07h, most significant bit first (R206). -/
def crcBit (c : Byte) : Byte := if c.msb then (c <<< 1) ^^^ 7#8 else c <<< 1

/-- One byte into the check value (R206). -/
def crcByte (c b : Byte) : Byte :=
  crcBit (crcBit (crcBit (crcBit (crcBit (crcBit (crcBit (crcBit (c ^^^ b))))))))

/-- CRC-8 with generator 07h, initial value 00h, no reflection and no final inversion (R164, R206, R212). -/
def crc8 (bs : List Byte) : Byte := bs.foldl crcByte 0#8

/-! ### The settings memory (R192) -/

/-- The byte at an address; a byte that nothing has written reads as 00h (log entry 2). -/
def memRead : Memory → Nat → Byte
  | [], _ => 0#8
  | (a, b) :: rest, x => if x = a then b else memRead rest x

/-- The memory with one byte written, in the canonical form. -/
def memWrite : Memory → Nat → Byte → Memory
  | [], x, v => if v = 0#8 then [] else [(x, v)]
  | (a, b) :: rest, x, v =>
    if x < a then (if v = 0#8 then (a, b) :: rest else (x, v) :: (a, b) :: rest)
    else if x = a then (if v = 0#8 then rest else (x, v) :: rest)
    else (a, b) :: memWrite rest x v

/-- Bytes written one after another from an address. -/
def memWriteBytes (m : Memory) (a : Nat) : List Byte → Memory
  | [] => m
  | b :: bs => memWriteBytes (memWrite m a b) (a + 1) bs

/-- Bytes read one after another from an address. -/
def memReadBytes (m : Memory) (a : Nat) : Nat → List Byte
  | 0 => []
  | n + 1 => memRead m a :: memReadBytes m (a + 1) n

/-- Addresses rise strictly from `low` and no entry is 00h. -/
def memSorted (low : Nat) : Memory → Bool
  | [] => true
  | (a, b) :: rest => low ≤ a && b != 0#8 && memSorted (a + 1) rest

/-- The canonical form of the image's memory: addresses strictly rising, none listed that reads as 00h, and every
address inside the 1,024 bytes (R192). -/
def Memory.wf (m : Memory) : Bool := memSorted 0 m && m.all (fun c => c.1 < 1024)

/-! ### Site and class records -/

/-- A site's configuration record (R8). -/
def siteRecord (s : State) (i : Nat) : SiteRecord := s.kfs.records.getD i (defaultSite i)

/-- A site's qualification record (R23). -/
def siteQual (s : State) (i : Nat) : SiteQual := s.kq.quals.getD i (resetQual (defaultSite i))

/-- A site's configuration record is replaced. -/
def setSiteRecord (i : Nat) (r : SiteRecord) (s : State) : State :=
  s.setKfs { s.kfs with records := s.kfs.records.set i r }

/-- A site's qualification record is replaced. -/
def setSiteQual (i : Nat) (q : SiteQual) (s : State) : State :=
  s.setKq { s.kq with quals := s.kq.quals.set i q }

/-- The entry of a class in a map (R52). -/
def classEntry (map : List ClassEntry) (cls : Nat) : ClassEntry := map.getD cls (defaultClass cls)

end Sys2Proof.Machine
end

