-- ==== Sys2Proof/Machine/Flags.lean ====
section
/-! DEFINITION. The conditions and levels that the blocks compute from the state: how a signal is read, the lockout and standby
conditions, deliverability, the desired display source, the backlight's cap and target, and the output levels. -/

namespace Sys2Proof.Machine

/-! ### Vehicle signals as their users read them (R75) -/

/-- Reverse; not available is read as not asserted. -/
def reverseAsserted (s : State) : Bool := s.mlu.signals.reverse == some true

/-- Ignition off; not available is read as on. -/
def ignitionOff (s : State) : Bool := s.mlu.signals.ignition == some false

/-- The park brake applied; not available is read as not applied. -/
def brakeApplied (sig : Signals) : Bool := sig.brake == some true

/-- Night; not available is read as not asserted. -/
def nightAsserted (s : State) : Bool := s.mlu.signals.night == some true

/-! ### Faults (R28, R51, R148) -/

/-- The number of sites in FAULT (R51). -/
def sitesInFault (s : State) : Nat := s.kq.quals.countP (fun q => q.state == .fault)

/-- The condition of an OUTPUT_FAULT line: some site or the touch panel is in FAULT (R188). -/
def faultCondition (s : State) : Bool := sitesInFault s != 0 || s.tpi.contact == .fault

/-! ### Ports (R71) -/

/-- The master's port is deliverable: the dock link UP, the vehicle port ONLINE. -/
def deliverable (s : State) : Master → Bool
  | .tablet => s.dlp.link == .up
  | .gateway => s.vp.online

/-- The receiver works: the link is WAITING, UP or STALE (R158, R165). -/
def receiving (s : State) : Bool := s.dlp.link == .waiting || s.dlp.link == .up || s.dlp.link == .stale

/-! ### Lockout (R87, R94) -/

/-- The lockout condition (R87). -/
def lockoutCondition (s : State) : Bool := s.mlu.mode != .off && s.mlu.motion != .parked

/-- The lockout is in effect: ENGAGING or ENGAGED (R94). -/
def lockoutInEffect (s : State) : Bool := s.mlu.lockout != .opened

/-- The live map exempts the class from the lockout (R52). -/
def exemptClass (s : State) (cls : Nat) : Bool := (classEntry s.crm.live cls).exempt

/-- A covered entry: its recorded class is not exempt and its owner set contains TABLET (R87). -/
def covered (s : State) (e : HeldEntry) : Bool := e.owners.tablet && !exemptClass s e.cls

/-- The number of covered entries in the table (R87). -/
def coveredCount (s : State) : Nat := s.kr.table.countP (covered s)

/-! ### The motion state (R81, R82) -/

/-- The speed rule (R81). -/
def speedRule (previous : Motion) (speed : Option Nat) (p : LockParams) : Motion :=
  match speed with
  | none => .unknown
  | some v =>
    match previous with
    | .parked => if v ≥ p.son then .moving else .parked
    | .moving | .unknown => if v ≤ p.soff then .parked else .moving

/-- The motion state: the speed rule's result, with the park-brake requirement (R82). -/
def motionResult (previous : Motion) (sig : Signals) (p : LockParams) : Motion :=
  match speedRule previous sig.speed p with
  | .parked => if p.brakeRequired && !brakeApplied sig then .moving else .parked
  | m => m

/-! ### Standby (R202) -/

/-- The standby condition: ignition off and the dock link ABSENT. -/
def standbyCondition (s : State) : Bool := ignitionOff s && s.dlp.link == .absent

/-! ### Display and backlight -/

/-- The desired display source (R138). -/
def desiredPicture (s : State) : Picture :=
  if reverseAsserted s then .gateway
  else if s.sst.standby then .blank
  else if s.dss.hold then .gateway
  else if (s.dlp.link == .up || s.dlp.link == .stale) && s.dss.request then .tablet
  else .blank

/-- The cap in force (R152). -/
def capInForce (s : State) : Nat := if nightAsserted s then s.blr.nightCap else 255

/-- The ambient figure A (R152). -/
def ambientFigure (light : Nat) : Nat := min (16 + light / 16) 255

/-- The backlight target (R152). -/
def backlightTarget (s : State) : Nat :=
  if s.dss.current == .blank || s.dss.target == .blank || s.sst.standby then 0
  else min (max (ambientFigure s.blr.light * s.blr.gain / 128) 8) (capInForce s)

/-- One ramp mark's step of a level toward a target: by 4, or to the target if that is nearer (R153). -/
def rampStep (level target : Nat) : Nat :=
  if level < target then min (level + 4) target else max (level - 4) target

/-! ### Output levels -/

/-- TATN: the link is WAITING, UP or STALE, and the tablet queue holds a report or an enabled notice is set (R168). -/
def tatnLevel (s : State) : Bool :=
  receiving s && (!s.tq.reports.isEmpty || s.dlp.notices &&& s.dlp.mask != 0)

/-- The video input that VSEL selects for a target; BLANK selects the tablet input (R137). -/
def vselFor : Picture → Master
  | .gateway => .gateway
  | _ => .tablet

/-- An auxiliary line is pulled to its active level: only an output line is, for its condition (R188). -/
def lampLevel (s : State) (l : LineSetup) : Bool :=
  match l.mode with
  | .outputLockout => lockoutInEffect s
  | .outputFault => faultCondition s
  | _ => false

/-- The levels of all output pins, and the duty of BLPWM, level/255 (R153). -/
def pinLevels (s : State) : Pins :=
  { tatn := tatnLevel s, vsel := vselFor s.dss.target, lamps := s.axl.install.lines.map (lampLevel s)
    blpwm := s.blr.level }

end Sys2Proof.Machine
end

