-- ==== Sys2Proof/Machine/Queues.lean ====
section
/-! DEFINITION. The two report queues: admission, coalescing, draining and the gap mark, removal and flush (Section 6). -/

namespace Sys2Proof.Machine

/-- A report appended as the tail; it takes the gap flag, which then becomes no (R127). -/
def Queue.append (q : Queue) (r : Report) : Queue :=
  { q with reports := q.reports ++ [{ r with gap := q.gap }], gap := false }

/-- There is room for `need` more reports beside those held and the reserved places (R122, R123, R125). -/
def Queue.room (q : Queue) (capacity need : Nat) : Bool := q.reports.length + q.reserved + need ≤ capacity

/-- A press-type report is offered: admitted with a reservation for its release (R122), or refused (R126). The answer says
whether it was admitted. -/
def Queue.offerPress (q : Queue) (capacity : Nat) (r : Report) : Queue × Bool :=
  if !q.draining && q.room capacity 2 then
    let q' := q.append r
    ({ q' with reserved := q'.reserved + 1 }, true)
  else ({ q with draining := true, refusals := bump q.refusals }, false)

/-- A REPEAT is offered (R125). -/
def Queue.offerRepeat (q : Queue) (capacity : Nat) (r : Report) : Queue × Bool :=
  if !q.draining && q.room capacity 1 then (q.append r, true) else (q, false)

/-- A report is the tail that a move may be coalesced into: a TOUCH_MOVE of the same sequence number (R123). -/
def coalesces (tail r : Report) : Bool := tail.kind == .touchMove && tail.seq == r.seq

/-- The vehicle port's report slot holds the tail: it holds the head, and the head is the only report (R123, R130). -/
def Queue.tailHeld (q : Queue) : Bool := q.headHeld && q.reports.length == 1

/-- The tail takes the position and the time of the offered move, and keeps its gap field (R123). -/
def Queue.coalesce (q : Queue) (tail r : Report) : Queue :=
  { q with reports := q.reports.dropLast ++ [{ tail with body := r.body, time := r.time }] }

/-- A move that is not coalesced: appended if there is room, else dropped and counted (R123). -/
def Queue.appendMove (q : Queue) (capacity : Nat) (r : Report) : Queue :=
  if q.room capacity 1 then q.append r else { q with moveDrops := bump q.moveDrops }

/-- A TOUCH_MOVE is offered (R123). -/
def Queue.offerMove (q : Queue) (capacity : Nat) (r : Report) : Queue :=
  match q.reports.getLast? with
  | some tail => if coalesces tail r && !q.tailHeld then q.coalesce tail r else q.appendMove capacity r
  | none => q.appendMove capacity r

/-- A release-type report is always appended, against its reservation (R124). -/
def Queue.offerRelease (q : Queue) (r : Report) : Queue :=
  let q' := q.append r
  { q' with reserved := q'.reserved - 1 }

/-- The head is removed; draining ends, and the gap flag is set, when the occupancy is then at or below half (R128). -/
def Queue.removeHead (q : Queue) (half : Nat) : Queue :=
  let rest := q.reports.tail
  if q.draining && rest.length ≤ half then { q with reports := rest, draining := false, gap := true }
  else { q with reports := rest }

/-- Up to `max` reports are taken from the head, one by one (R129). -/
def Queue.take (q : Queue) (half : Nat) : Nat → Queue × List Report
  | 0 => (q, [])
  | n + 1 =>
    match q.reports with
    | [] => (q, [])
    | r :: _ =>
      let (q', rs) := Queue.take (q.removeHead half) half n
      (q', r :: rs)

/-- The queue is flushed: empty, nothing reserved, not draining, no gap mark due, and the report slot's hold cancelled. The
counters stay (R131). -/
def Queue.flush (q : Queue) : Queue :=
  { q with reports := [], reserved := 0, draining := false, gap := false, headHeld := false }

/-! ### The queues in the state -/

/-- The queue of a master. -/
def queueOf (s : State) : Master → Queue
  | .tablet => s.tq
  | .gateway => s.gq

/-- The queue of a master is replaced. -/
def setQueue (m : Master) (q : Queue) (s : State) : State :=
  match m with
  | .tablet => s.setTq q
  | .gateway => s.setGq q

/-- The capacity of a master's queue (R118). -/
def capacityOf : Master → Nat
  | .tablet => Config.tabletCapacity
  | .gateway => Config.gatewayCapacity

/-- The Key Router offers a press-type report to a master's queue; a refusal sets OVERFLOW for that master (R122, R126). -/
def offerPressTo (m : Master) (r : Report) (s : State) : State × Bool :=
  let (q, admitted) := (queueOf s m).offerPress (capacityOf m) r
  let s' := setQueue m q s
  (if admitted then s' else raiseFor m .overflow s', admitted)

/-- The Key Router offers a press-type report to a master's queue if the offer set holds the master (R99). -/
def offerPressIf (wanted : Bool) (m : Master) (r : Report) (s : State) : State × Bool :=
  if wanted then offerPressTo m r s else (s, false)

/-- The Key Router offers a REPEAT to a master's queue; a refused one is dropped and counted (R111, R125). -/
def offerRepeatIf (wanted : Bool) (m : Master) (r : Report) (s : State) : State :=
  if wanted then
    let (q, admitted) := (queueOf s m).offerRepeat (capacityOf m) r
    let s' := setQueue m q s
    if admitted then s' else s'.setKr { s'.kr with repeatDrops := bump s'.kr.repeatDrops }
  else s

/-- The Key Router offers a TOUCH_MOVE to a master's queue (R103, R123). -/
def offerMoveIf (wanted : Bool) (m : Master) (r : Report) (s : State) : State :=
  if wanted then setQueue m ((queueOf s m).offerMove (capacityOf m) r) s else s

/-- The Key Router offers a release-type report to a master's queue (R104, R124). -/
def offerReleaseIf (wanted : Bool) (m : Master) (r : Report) (s : State) : State :=
  if wanted then setQueue m ((queueOf s m).offerRelease r) s else s

end Sys2Proof.Machine
end

