-- ==== Sys2Proof/Machine/Router.lean ====
section
/-! DEFINITION. The press gates of the Class Route Map (3.4) and the Key Router: sequence numbers, presses, rollover, moves,
releases, lockout withdrawals, the repeat candidate and port loss (Section 5), with the ends of a grace that the
router's events bring about (R89). -/

namespace Sys2Proof.Machine

/-! ### The press gates (R69 to R72) -/

/-- The route gate (R69). -/
def routeGate (s : State) (route : Route) : Owners :=
  match route with
  | .none => { tablet := false, gateway := false }
  | .tablet => { tablet := true, gateway := false }
  | .gateway => { tablet := false, gateway := true }
  | .both => { tablet := true, gateway := true }
  | .follow =>
    { tablet := s.dss.settle.isNone && s.dss.current == .tablet
      gateway := s.dss.settle.isNone && s.dss.current == .gateway }

/-- The lockout gate (R70). -/
def lockoutGate (s : State) (e : ClassEntry) (o : Owners) : Owners :=
  if lockoutInEffect s && !e.exempt then
    { tablet := false, gateway := o.gateway || (o.tablet && e.divert) }
  else o

/-- The gate-3 input of a class: the set that the lockout gate produces (R65, R71). -/
def gateThreeInput (s : State) (cls : Nat) : Owners :=
  let e := classEntry s.crm.live cls
  lockoutGate s e (routeGate s e.route)

/-- The deliverability gate (R71). -/
def deliverabilityGate (s : State) (o : Owners) : Owners :=
  { tablet := o.tablet && deliverable s .tablet, gateway := o.gateway && deliverable s .gateway }

/-- The offer set of a press of the class (R65). -/
def offerSet (s : State) (cls : Nat) : Owners := deliverabilityGate s (gateThreeInput s cls)

/-! ### Sequence numbers (R97) -/

/-- The number is carried by a held entry or by a report in either queue. -/
def seqInUse (s : State) (n : Nat) : Bool :=
  s.kr.table.any (fun e => e.seq == n) || s.tq.reports.any (fun r => r.seq == n) || s.gq.reports.any (fun r => r.seq == n)

/-- The number after another: 65,535 is followed by 1. -/
def seqAfter (n : Nat) : Nat := if n < 65535 then n + 1 else 1

/-- The first number after `n` that nothing in the part carries, found in at most `fuel` tries. -/
def freeSeq (s : State) : Nat → Nat → Nat
  | 0, n => seqAfter n
  | fuel + 1, n => if seqInUse s (seqAfter n) then freeSeq s fuel (seqAfter n) else seqAfter n

/-- The sequence number that the next entry is given (R97): a free one is found within 61 tries. -/
def nextSeq (s : State) : Nat := freeSeq s 60 s.kr.seq

/-! ### The repeat candidate (R110) -/

/-- An entry may be the candidate: its class repeats in the live map and it has an owner. -/
def repeatEligible (s : State) (e : HeldEntry) : Bool :=
  (classEntry s.crm.live e.cls).repeats && !e.owners.isEmpty

/-- The newest eligible entry. -/
def newestEligible (s : State) : Option HeldEntry := s.kr.table.reverse.find? (repeatEligible s)

/-- The router chooses the repeat candidate again, and the timer follows the outcome (R110). -/
def chooseCandidate (s : State) : State :=
  match newestEligible s with
  | none => s.setKr { s.kr with candidate := none, repeatTimer := none }
  | some e =>
    if s.kr.candidate = some e.seq then s
    else s.setKr { s.kr with candidate := some e.seq, repeatTimer := some (startTimer s s.kr.delay) }

/-! ### The end of a grace (R89) -/

/-- The lockout state changes, and LOCKOUT is set for both masters (R94). -/
def setLockout (l : Lockout) (timer : Option Timer) (s : State) : State :=
  raiseBoth .lockout (s.setMlu { s.mlu with lockout := l, graceTimer := timer })

/-- While ENGAGING, the covered entries are counted again; with none left the lockout becomes ENGAGED and the grace timer
stops (R89). -/
def countCovered (s : State) : State :=
  if s.mlu.lockout == .engaging && coveredCount s == 0 then setLockout .engaged none s else s

/-! ### Lockout withdrawal (R106) -/

/-- The report kind of a forced release, or of an ordinary one, for an entry's source (R104, R105). -/
def releaseKind (src : Source) (forced : Option Reason) : Kind :=
  match src, forced with
  | .site _, none => .release
  | .site _, some _ => .forcedRelease
  | .touch, none => .touchUp
  | .touch, some _ => .forcedTouchUp

/-- The release-type report of an entry, with the coordinates that a touch report carries (R104 to R106, R120). -/
def releaseReport (s : State) (forced : Option Reason) (xy : Nat × Nat) (e : HeldEntry) : Report :=
  { kind := releaseKind e.source forced
    seq := e.seq
    time := s.clock
    gap := false
    body := match e.source with
      | .site _ => .key e.code e.cls
      | .touch => .touch xy.1 xy.2
    reason := forced }

/-- The position of the contact's last sample (R106, R147). -/
def lastPosition (s : State) : Nat × Nat := s.tpi.last.getD (0, 0)

/-- The tablet queue is given the LOCKOUT forced release of one entry (R106). -/
def withdrawReport (s : State) (e : HeldEntry) : State :=
  offerReleaseIf true .tablet (releaseReport s (some .lockout) (lastPosition s) e) s

/-- The entries that `named` picks and that TABLET owns are withdrawn from the tablet, oldest first: a forced release each,
and TABLET leaves their owner sets; then the candidate is chosen again (R106). -/
def withdraw (named : HeldEntry → Bool) (s : State) : State :=
  let taken := fun e : HeldEntry => e.owners.tablet && named e
  let s1 := (s.kr.table.filter taken).foldl withdrawReport s
  chooseCandidate
    (s1.setKr
      { s1.kr with
        table := s1.kr.table.map fun e => if taken e then { e with owners := e.owners.without .tablet } else e })

/-! ### Releases (R104, R105) -/

/-- The router takes a release-kind event of a source: the entry's owners are given the report, the entry is removed, the
candidate is chosen again, and the lockout unit is told where TABLET was an owner. With no entry nothing happens. -/
def takeRelease (src : Source) (forced : Option Reason) (xy : Nat × Nat) (s : State) : State :=
  match s.kr.table.find? (fun e => e.source == src) with
  | none => s
  | some e =>
    let r := releaseReport s forced xy e
    let s1 := offerReleaseIf e.owners.gateway .gateway r (offerReleaseIf e.owners.tablet .tablet r s)
    let s2 := chooseCandidate (s1.setKr { s1.kr with table := s1.kr.table.eraseP (fun e => e.source == src) })
    if e.owners.tablet then countCovered s2 else s2

/-! ### Presses (R99 to R101) -/

/-- A press-type event as the router takes it: its source, the code and class it fixes, its press time, and the kind and body
of its report (R99, R100). -/
structure Press where
  source : Source
  code : Nat
  cls : Nat
  time : Nat
  kind : Kind
  body : Body
  deriving DecidableEq, Repr

/-- A rollover: counted, and ROLLOVER set for each master of the offer set (R72, R101). -/
def rollover (offer : Owners) (s : State) : State :=
  let s1 := s.setKr { s.kr with rollovers := bump s.kr.rollovers }
  let s2 := if offer.tablet then raiseFor .tablet .rollover s1 else s1
  if offer.gateway then raiseFor .gateway .rollover s2 else s2

/-- The report offered for a press (R100). -/
def pressReport (p : Press) (seq : Nat) : Report :=
  { kind := p.kind, seq := seq, time := p.time, gap := false, body := p.body, reason := none }

/-- A press taken with room in the table (R99). -/
def admitPress (p : Press) (s : State) : State :=
  let offer := offerSet s p.cls
  let seq := nextSeq s
  let r := pressReport p seq
  let (s1, byTablet) := offerPressIf offer.tablet .tablet r s
  let (s2, byGateway) := offerPressIf offer.gateway .gateway r s1
  let e : HeldEntry :=
    { source := p.source, code := p.code, cls := p.cls, seq := seq
      owners := { tablet := byTablet, gateway := byGateway }, pressTime := p.time }
  chooseCandidate (s2.setKr { s2.kr with table := s2.kr.table ++ [e], seq := seq })

/-- The router takes a press-type event: with 12 entries in the table it is a rollover (R99, R101). -/
def takePress (p : Press) (s : State) : State :=
  if s.kr.table.length < Config.tableSize then admitPress p s else rollover (offerSet s p.cls) s

/-! ### Touch moves (R103) -/

/-- The router takes a touch move: offered to the touch entry's owner, else discarded (R103). -/
def takeMove (xy : Nat × Nat) (s : State) : State :=
  match s.kr.table.find? (fun e => e.source == .touch) with
  | none => s
  | some e =>
    let r : Report :=
      { kind := .touchMove, seq := e.seq, time := s.clock, gap := false, body := .touch xy.1 xy.2, reason := none }
    offerMoveIf e.owners.gateway .gateway r (offerMoveIf e.owners.tablet .tablet r s)

/-! ### Repeats (R111) -/

/-- The candidate's entry. -/
def candidateEntry (s : State) : Option HeldEntry :=
  match s.kr.candidate with
  | none => none
  | some n => s.kr.table.find? (fun e => e.seq == n)

/-- The tablet is left out of a REPEAT of the class: the lockout is in effect and the class is not exempt (R111). -/
def repeatWithheld (s : State) (cls : Nat) : Bool := lockoutInEffect s && !exemptClass s cls

/-- The REPEAT of an entry (R111, R120). -/
def repeatReport (s : State) (e : HeldEntry) : Report :=
  { kind := .repetition, seq := e.seq, time := s.clock, gap := false, body := .key e.code e.cls, reason := none }

/-- A REPEAT is offered to the candidate's owners, and the timer restarts with the interval, from the expiry (R111). -/
def takeRepeatExpiry (t : Timer) (e : HeldEntry) (s : State) : State :=
  let r := repeatReport s e
  let s1 := offerRepeatIf (e.owners.tablet && !repeatWithheld s e.cls) .tablet r s
  let s2 := offerRepeatIf e.owners.gateway .gateway r s1
  s2.setKr { s2.kr with repeatTimer := some (t.next s2.kr.interval) }

/-! ### Port loss (R113) -/

/-- A master's port is lost: it leaves every owner set, its queue is flushed, and the candidate is chosen again; for the
tablet the lockout unit is told (R113). -/
def portLoss (m : Master) (s : State) : State :=
  let s1 := setQueue m (queueOf s m).flush s
  let s2 :=
    chooseCandidate
      (s1.setKr { s1.kr with table := s1.kr.table.map fun e => { e with owners := e.owners.without m } })
  match m with
  | .tablet => countCovered s2
  | .gateway => s2

end Sys2Proof.Machine
end

