-- ==== Sys2Proof/Machine/Display.lean ====
section
/-! DEFINITION. The Display Source Selector and the Backlight Regulator (7.1, 7.3). -/

namespace Sys2Proof.Machine

/-- The backlight target is computed anew (R152). -/
def retarget (s : State) : State := s.setBlr { s.blr with target := backlightTarget s }

/-- The cap may have changed: a level above it drops to it at once, and the target is computed anew (R153, R155). -/
def applyCap (s : State) : State := retarget (s.setBlr { s.blr with level := min s.blr.level (capInForce s) })

/-- The desired source is derived anew; where it differs from the target, a switch begins (R139, R140). VSEL follows the
target in the same event. -/
def deriveDisplay (s : State) : State :=
  let want := desiredPicture s
  if want = s.dss.target then s
  else retarget (s.setDss { s.dss with target := want, settle := some (startTimer s 40) })

/-- The settle timer expires: the target becomes the current source, and DISPLAY is set for both masters (R141). -/
def settleDisplay (s : State) : State :=
  retarget (raiseBoth .display (s.setDss { s.dss with current := s.dss.target, settle := none }))

/-- The user gain is set, and the target computed anew (R154). -/
def setGain (gain : Nat) (s : State) : State := retarget (s.setBlr { s.blr with gain := gain })

/-! ### Standby exit (R204) -/

/-- The standby condition is taken anew in RUN: the timer starts with 60 s when the condition becomes true and stops when it
becomes false (R202). In STANDBY the timer does not run. -/
def takeStandbyCondition (s : State) : State :=
  if s.sst.standby then s
  else if standbyCondition s then
    if s.sst.standbyTimer.isSome then s else s.setSst { s.sst with standbyTimer := some (startTimer s 60000) }
  else s.setSst { s.sst with standbyTimer := none }

/-- At standby exit a FAULT contact's next retry is set to 100 ms after the exit (R150). -/
def resumeTouch (s : State) : State :=
  if s.tpi.contact == .fault then s.setTpi { s.tpi with retry := some (startTimer s 100) } else s

/-- The part leaves STANDBY: the scan flag clears, the desired source and the backlight target are taken anew, touch reads
resume, and the standby condition is taken anew (R204). -/
def exitStandby (s : State) : State :=
  let s1 := (s.setSst { s.sst with standby := false }).setKfs { s.kfs with standbyScan := false }
  takeStandbyCondition (resumeTouch (retarget (deriveDisplay s1)))

/-- The part leaves STANDBY if it is in it. -/
def wake (s : State) : State := if s.sst.standby then exitStandby s else s

end Sys2Proof.Machine
end

