-- ==== Sys2Proof/Machine/Lockout.lean ====
section
/-! DEFINITION. The Motion Lockout Unit: the lockout condition and its states, the motion state, the vehicle signals with their
sources and users, and live map changes (Section 4; R60, R61). -/

namespace Sys2Proof.Machine

/-! ### The lockout state (R88, R91, R93) -/

/-- The condition is true in OPEN: ENGAGED where no entry is covered, else ENGAGING with a grace (R88). -/
def engage (s : State) : State :=
  if coveredCount s == 0 then setLockout .engaged none s
  else setLockout .engaging (some (startTimer s s.mlu.params.grace)) s

/-- The lockout condition is taken anew (R88, R91). -/
def takeCondition (s : State) : State :=
  if lockoutCondition s then
    if s.mlu.lockout == .opened then engage s else s
  else if s.mlu.lockout == .opened then s
  else setLockout .opened none s

/-- The lockout condition is taken anew, but not before the first scan completion after a full reset (R85, R93). -/
def takeConditionIfTaken (s : State) : State := if s.mlu.conditionTaken then takeCondition s else s

/-- The first scan completion after a full reset takes the lockout condition for the first time (R93). -/
def firstCondition (s : State) : State :=
  if s.mlu.conditionTaken then s else takeCondition (s.setMlu { s.mlu with conditionTaken := true })

/-! ### The motion state (R83) -/

/-- The motion state is derived anew; a change takes the lockout condition anew (R83). -/
def deriveMotion (s : State) : State :=
  let m := motionResult s.mlu.motion s.mlu.signals s.mlu.params
  if m = s.mlu.motion then s else takeConditionIfTaken (s.setMlu { s.mlu with motion := m })

/-! ### Live map changes (R60, R61) -/

/-- A class has become not exempt between two maps. -/
def lostExempt (old new : List ClassEntry) (cls : Nat) : Bool :=
  (classEntry old cls).exempt && !(classEntry new cls).exempt

/-- The exempt field of some class differs between two maps. -/
def exemptDiffers (old new : List ClassEntry) : Bool :=
  (List.range Config.classCount).any fun c => (classEntry old c).exempt != (classEntry new c).exempt

/-- The repeat field of some class differs between two maps. -/
def repeatDiffers (old new : List ClassEntry) : Bool :=
  (List.range Config.classCount).any fun c => (classEntry old c).repeats != (classEntry new c).repeats

/-- The lockout unit deals with held entries after exempt fields have changed (R61). -/
def exemptChange (old : List ClassEntry) (s : State) : State :=
  match s.mlu.lockout with
  | .opened => s
  | .engaging => countCovered s
  | .engaged => withdraw (fun e => lostExempt old s.crm.live e.cls) s

/-- A live map change: the new map stands, and then the router is told of changed repeat fields and the lockout unit of
changed exempt fields (R60; log entry 9 for their order). -/
def changeLiveMap (new : List ClassEntry) (s : State) : State :=
  let old := s.crm.live
  let s1 := s.setCrm { s.crm with live := new }
  let s2 := if repeatDiffers old new then chooseCandidate s1 else s1
  if exemptDiffers old new then exemptChange old s2 else s2

/-! ### Signal sources (R76, R78) -/

/-- The level of an input line as its function's signal: asserted, on or applied (R78, R188). -/
def lineSignal (mode : LineMode) (level : Bool) : Bool :=
  match mode with
  | .inputLow => !level
  | _ => level

/-- The setup is an input mode. -/
def LineSetup.isInput (l : LineSetup) : Bool := l.mode == .inputHigh || l.mode == .inputLow

/-- The value of an AUX-sourced signal: that of the input line with its function, if there is one and it has a debounced level
(R76, R78). -/
def auxValue (f : LineFunction) : List LineSetup → List Line → Option Bool
  | l :: ls, v :: vs =>
    if l.isInput && l.function == f then v.debounced.map (lineSignal l.mode) else auxValue f ls vs
  | _, _ => none

/-- The value of one signal from its source (R76). -/
def sourceValue (s : State) (src : SignalSource) (can : Option Bool) (f : LineFunction) : Option Bool :=
  match src with
  | .can => can
  | .aux => auxValue f s.axl.install.lines s.axl.lines

/-- The five signals, each from its source as it stands (R76, R77, R78). -/
def sourcedSignals (s : State) : Signals :=
  { speed := s.mlu.last.speed
    reverse := sourceValue s s.axl.install.reverse s.mlu.last.reverse .reverse
    ignition := sourceValue s s.axl.install.ignition s.mlu.last.ignition .ignition
    brake := sourceValue s s.axl.install.brake s.mlu.last.brake .brake
    night := sourceValue s s.axl.install.night s.mlu.last.night .night }

/-! ### The users of the signals (R75) -/

/-- The lockout unit reports ignition: in STANDBY, on or not available ends STANDBY (R204); in RUN the standby condition is
taken anew (R202). -/
def ignitionReport (s : State) : State :=
  if s.sst.standby then (if ignitionOff s then s else exitStandby s) else takeStandbyCondition s

/-- The changed signals are reported to their users: reverse to the display selector, ignition to the standby logic, night to
the backlight (R75; log entry 9 for their order). -/
def reportSignals (old : Signals) (s : State) : State :=
  let new := s.mlu.signals
  let s1 := if old.reverse = new.reverse then s else deriveDisplay s
  let s2 := if old.ignition = new.ignition then s1 else ignitionReport s1
  if old.night = new.night then s2 else applyCap s2

/-- The signals take new values, and those that change are reported (R75). -/
def updateSignals (new : Signals) (s : State) : State :=
  reportSignals s.mlu.signals (s.setMlu { s.mlu with signals := new })

/-- The signals are taken from their sources and lines anew after a change of the installation, each once, from its old value to that of
its new source and line (log entry 25); a changed park brake derives the motion state anew (R76, R83). -/
def resourceSignals (s : State) : State :=
  let s1 := updateSignals (sourcedSignals s) s
  if s1.mlu.signals.brake = s.mlu.signals.brake then s1 else deriveMotion s1

/-- The debounced level of a line is reported. Where the line's signal is AUX-sourced, the signal takes its value, and for
the park brake the motion state is derived anew (R78, R189). -/
def lineReport (f : LineFunction) (s : State) : State :=
  let s1 := updateSignals (sourcedSignals s) s
  if f = .brake ∧ s.axl.install.brake = .aux then deriveMotion s1 else s1

/-! ### Vehicle state and staleness (R77, R79) -/

/-- One bit of a byte of VEHICLE_STATE, taken as not available where its validity bit is clear (R211). -/
def stateBit (values validity : Nat) (bit : Nat) : Option Bool :=
  if validity.testBit bit then some (values.testBit bit) else none

/-- The fields of a VEHICLE_STATE frame (R211). -/
def vehicleFields (data : List Byte) : Signals :=
  let byteAt := fun i => (data.getD i 0#8).toNat
  let speed := byteAt 0 * 256 + byteAt 1
  { speed := if speed = 65535 then none else some speed
    reverse := stateBit (byteAt 2) (byteAt 3) 0
    ignition := stateBit (byteAt 2) (byteAt 3) 1
    brake := stateBit (byteAt 2) (byteAt 3) 2
    night := stateBit (byteAt 2) (byteAt 3) 3 }

/-- A VEHICLE_STATE is taken (R77): the last vehicle state, staleness, the signals with their users, the motion state. -/
def takeVehicleState (data : List Byte) (s : State) : State :=
  let s1 := s.setMlu { s.mlu with last := vehicleFields data, staleness := 0, received := true }
  deriveMotion (updateSignals (sourcedSignals s1) s1)

/-- The staleness counter has reached 4: the last vehicle state is cleared, and with it speed and every CAN-sourced signal (R79). -/
def loseVehicleData (s : State) : State :=
  let s1 := s.setMlu { s.mlu with last := noSignals }
  deriveMotion (updateSignals (sourcedSignals s1) s1)

/-- What a staleness mark does to the received mark and the counter (R79). -/
def staleStep (s : State) : State :=
  if s.mlu.received then s.setMlu { s.mlu with received := false }
  else if s.mlu.staleness < 4 then
    let s1 := s.setMlu { s.mlu with staleness := s.mlu.staleness + 1 }
    if s1.mlu.staleness = 4 then loseVehicleData s1 else s1
  else s

/-- The grace timer expires (R90). -/
def endGrace (s : State) : State :=
  let s1 := withdraw (fun e => !exemptClass s e.cls) s
  setLockout .engaged none s1

end Sys2Proof.Machine
end

