-- ==== Sys2Proof/Machine/Touch.lean ====
section
/-! DEFINITION. The Touch Panel Interface (7.2) and entry into STANDBY (R203), which forces a contact up. -/

namespace Sys2Proof.Machine

/-! ### Scaling (R146) -/

/-- One coordinate scaled with its axis of the calibration: rounded down, then clamped to 0..4095 (R146). -/
def scaleAxis (raw lo hi : Nat) : Nat :=
  (clampInt 0 4095 ((((raw : Int) - lo) * 4095).fdiv ((hi : Int) - lo))).toNat

/-- A present sample scaled with the calibration (R146). -/
def scaleTouch (c : TouchCal) (xr yr : Count) : Nat × Nat :=
  (scaleAxis xr.val c.xmin c.xmax, scaleAxis yr.val c.ymin c.ymax)

/-! ### Contact events (R147) -/

/-- A contact-down as a press of class 15 (R99, R100). -/
def touchPress (s : State) (xy : Nat × Nat) : Press :=
  { source := .touch, code := 0, cls := 15, time := s.clock, kind := .touchDown, body := .touch xy.1 xy.2 }

/-- A contact-down is raised; the last sample and the contact state follow (R147). -/
def contactDown (xy : Nat × Nat) (s : State) : State :=
  let s1 := takePress (touchPress s xy) s
  s1.setTpi { s1.tpi with last := some xy, contact := .down }

/-- A touch move is raised; the last sample follows (R147). -/
def contactMove (xy : Nat × Nat) (s : State) : State :=
  let s1 := takeMove xy s
  s1.setTpi { s1.tpi with last := some xy }

/-- A touch-up at the last sample is raised; the last sample is kept (R147). -/
def contactUp (s : State) : State :=
  let s1 := takeRelease .touch none (lastPosition s) s
  s1.setTpi { s1.tpi with contact := .none }

/-- A scaled sample acts on a contact state of NONE or DOWN (R147); `none` is an absent sample. -/
def actOnSample (sample : Option (Nat × Nat)) (s : State) : State :=
  match s.tpi.contact, sample with
  | .down, some xy => if s.tpi.last = some xy then s else contactMove xy s
  | .down, none => contactUp s
  | _, some xy => contactDown xy s
  | _, none => s

/-- A read brings a sample: the failure run becomes 0, a FAULT contact becomes NONE, and the sample acts (R146, R148). -/
def takeSample (present : Bool) (xr yr : Count) (s : State) : State :=
  let contact := if s.tpi.contact = .fault then Contact.none else s.tpi.contact
  let s1 := s.setTpi { s.tpi with failRun := 0, contact := contact, retry := none }
  actOnSample (if present then some (scaleTouch s.tpi.cal xr yr) else none) s1

/-- The touch panel enters FAULT (R148). -/
def touchFault (s : State) : State :=
  let s1 := if s.tpi.contact = .down then takeRelease .touch (some .touch) (lastPosition s) s else s
  raiseBoth .touchFault
    (s1.setTpi
      { s1.tpi with contact := .fault, failRun := 3, faults := bump s1.tpi.faults, retry := some (startTimer s1 100) })

/-- A read fails (R148): in FAULT only a new retry time; else the failure run rises, and at 3 the panel enters FAULT. -/
def failRead (s : State) : State :=
  if s.tpi.contact = .fault then s.setTpi { s.tpi with retry := some (startTimer s 100) }
  else if s.tpi.failRun + 1 < 3 then s.setTpi { s.tpi with failRun := s.tpi.failRun + 1 }
  else touchFault s

/-! ### Reads (R145) -/

/-- At least 10 ms have passed since the start of the last read. -/
def readSpaced (s : State) : Bool :=
  match s.tpi.lastStart with
  | none => true
  | some t => 10 ≤ elapsed s.clock t

/-- A read may start: outside FAULT under the five conditions of R145, in FAULT at the retry time (R148); never in STANDBY. -/
def readStarts (s : State) : Bool :=
  !s.tpi.reading && !s.sst.standby &&
    (if s.tpi.contact = .fault then dueTimer s.tpi.retry s.clock
     else readSpaced s && (s.tpi.interrupt || s.tpi.contact == .down))

/-- A read starts. -/
def startRead (s : State) : State :=
  s.setTpi { s.tpi with reading := true, lastStart := some s.clock, retry := none }

/-- A read in progress completes (R146 to R148). -/
def completeRead (result : TouchRead) (s : State) : State :=
  let s1 := s.setTpi { s.tpi with reading := false }
  match result with
  | .sample present xr yr => takeSample present xr yr s1
  | .noAck => failRead s1

/-! ### Standby entry (R150, R203) -/

/-- What standby entry does to the touch panel: a read is abandoned, a DOWN contact is forced up with reason TOUCH, a FAULT
contact's retry is suspended (R150). -/
def idleTouch (s : State) : State :=
  match s.tpi.contact with
  | .down =>
    let s1 := takeRelease .touch (some .touch) (lastPosition s) s
    s1.setTpi { s1.tpi with contact := .none, failRun := 0, reading := false }
  | .none => s.setTpi { s.tpi with failRun := 0, reading := false }
  | .fault => s.setTpi { s.tpi with retry := none, reading := false }

/-- The part enters STANDBY (R203). -/
def enterStandby (s : State) : State :=
  let s1 := (s.setSst { s.sst with standby := true, standbyTimer := none }).setKfs { s.kfs with standbyScan := true }
  idleTouch (retarget (deriveDisplay s1))

end Sys2Proof.Machine
end

