-- ==== Sys2Proof/Machine/Qualify.lean ====
section
/-! DEFINITION. The Key Qualifier: the stages of a scan completion, the stuck expiry, the changes of a site's enabled field, trims,
qualification settings and the events that the router takes (Section 2; R17, R18). -/

namespace Sys2Proof.Machine

/-- The events a site raises to the router (R37). -/
inductive KeyEvent where
  | press
  | release
  | forced (reason : Reason)
  deriving DecidableEq, Repr

/-! ### The guard (R40 to R42) -/

/-- The guard's delta against its baseline (R40). -/
def guardDelta (g : GuardState) (rg : Nat) : Int := (rg : Int) - (g.base / 16 : Nat)

/-- The WET runs (R41). -/
def wetRuns (thr : Nat) (g : GuardState) (d : Int) : GuardState :=
  if g.wet then
    if d < (thr / 2 : Nat) then
      if g.dryRun + 1 ≥ 20 then { g with wet := false, dryRun := 0, wetRun := 0 } else { g with dryRun := g.dryRun + 1 }
    else { g with dryRun := 0 }
  else if d ≥ thr then
    if g.wetRun + 1 ≥ 3 then { g with wet := true, wetRun := 0, dryRun := 0 } else { g with wetRun := g.wetRun + 1 }
  else { g with wetRun := 0 }

/-- The guard evaluation at the start of a completion (R40): the new guard state and the guard's delta, if one is formed. -/
def evalGuard (thr : Nat) (g : GuardState) (rg : Nat) : GuardState × Option Int :=
  if thr = 0 then ({ g with reseed := true, wet := false }, none)
  else if g.reseed then ({ g with base := 16 * rg, reseed := false, negRun := 0 }, none)
  else
    let d := guardDelta g rg
    (wetRuns thr g d, some d)

/-- One tracking step: a 2^k-th of the error, truncated toward zero (R39). -/
def trackStep (rate base count : Nat) : Nat :=
  ((base : Int) + ((16 * count : Int) - base).tdiv ((2 : Int) ^ rate)).toNat

/-- A baseline update by the delta and the half-threshold: the new baseline and negative run (R39, R42). -/
def baselineUpdate (rate : Nat) (wet : Bool) (half : Nat) (base negRun count : Nat) (d : Int) : Nat × Nat :=
  if d ≤ -(half : Int) then
    if negRun + 1 ≥ 4 then (16 * count, 0) else (base, negRun + 1)
  else if d < half then (if wet then base else trackStep rate base count, 0)
  else (base, 0)

/-- The guard's baseline update at the end of a completion that is not rejected (R42). -/
def updateGuard (thr rate : Nat) (g : GuardState) (rg : Nat) (d : Option Int) : GuardState :=
  match d with
  | none => g
  | some d =>
    let b := baselineUpdate rate g.wet (thr / 2) g.base g.negRun rg d
    { g with base := b.1, negRun := b.2 }

/-! ### Per-site preparation (R27 to R32) -/

/-- What preparation finds of a site at a completion. -/
inductive Prepared where
  /-- The completion carries no count for the site. -/
  | noCount
  /-- The site stopped at the rail check or is in FAULT (R27, R28). -/
  | stopped (raw : Nat)
  /-- The site was reseeded (R31). -/
  | reseeded (raw corrected : Nat)
  /-- The site has a delta and an effective threshold (R32). -/
  | live (raw corrected : Nat) (delta : Int) (threshold : Nat)
  deriving DecidableEq, Repr

/-- A site under way through the stages of a completion: its records, its state as the completion arrived, what preparation
found, and the event it raises. -/
structure SitePass where
  record : SiteRecord
  qual : SiteQual
  before : SiteState
  found : Prepared
  event : Option KeyEvent
  deriving DecidableEq, Repr

/-- A raw count of 0 or 4095 is a rail reading (R27). -/
def isRail (raw : Nat) : Bool := raw == 0 || raw == 4095

/-- The site is in PRESSED or RELEASING. -/
def isHeld (st : SiteState) : Bool := st == .pressed || st == .releasing

/-- The corrected count (R30). -/
def correctedCount (raw : Nat) (offset : Int) (gain : Nat) : Nat :=
  let sum := (raw : Int) + offset
  if sum ≤ 0 then 0 else min (sum.toNat * (1024 + gain) / 2048) 4095

/-- A count taken by a site in FAULT (R28). -/
def faultCount (raw : Nat) (q : SiteQual) : SiteQual :=
  if isRail raw then { q with clearRun := 0 }
  else if q.clearRun + 1 ≥ 8 then { q with state := .idle, railRun := 0, clearRun := 0, reseed := true }
  else { q with clearRun := q.clearRun + 1 }

/-- The rail run after a reading (R27). -/
def railRunAfter (raw run : Nat) : Nat := if isRail raw then min (run + 1) 8 else 0

/-- A site enters FAULT (R27). -/
def enterFault (q : SiteQual) : SiteQual :=
  { q with state := .fault, railRun := 8, debounce := 0, negRun := 0, clearRun := 0, pressTime := none }

/-- The pending trim is applied to an IDLE site (R29). -/
def applyTrim (r : SiteRecord) (q : SiteQual) : SiteRecord × SiteQual :=
  match q.trim, q.state with
  | some t, .idle => ({ r with offset := t.offset, gain := t.gain }, { q with trim := none, reseed := true })
  | _, _ => (r, q)

/-- The corrected count, the reseed, and the delta and threshold of a site past the rail check (R29 to R32). -/
def prepareLive (wet : Bool) (margin raw : Nat) (before : SiteState) (r : SiteRecord) (q : SiteQual) : SitePass :=
  let (r1, q1) := applyTrim r q
  let c := correctedCount raw r1.offset r1.gain
  if q1.reseed then
    { record := r1, qual := { q1 with base := 16 * c, reseed := false, debounce := 0, negRun := 0 }
      before := before, found := .reseeded raw c, event := none }
  else
    { record := r1, qual := q1, before := before
      found := .live raw c ((c : Int) - (q1.base / 16 : Nat)) (if wet then r1.thr + margin else r1.thr), event := none }

/-- The preparation of one site that has a count (R26, R27, R28). -/
def prepareSite (wet : Bool) (margin raw : Nat) (r : SiteRecord) (q : SiteQual) : SitePass :=
  if q.state = .fault then
    { record := r, qual := faultCount raw q, before := .fault, found := .stopped raw, event := none }
  else if railRunAfter raw q.railRun = 8 then
    { record := r, qual := enterFault q, before := q.state, found := .stopped raw
      event := if isHeld q.state then some (.forced .fault) else none }
  else prepareLive wet margin raw q.state r { q with railRun := railRunAfter raw q.railRun }

/-- The preparation of every site in ascending order, from site `i` on; `counts` are the electrodes' readings, and an electrode
without one reads 0, as an open connection does (R7). -/
def prepareSites (measured : List Nat) (wet : Bool) (margin : Nat) :
    Nat → List Count → List SiteRecord → List SiteQual → List SitePass
  | i, counts, r :: rs, q :: qs =>
    let pass :=
      if measured.contains i && r.enabled then prepareSite wet margin (counts.headD 0).val r q
      else { record := r, qual := q, before := q.state, found := .noCount, event := none }
    pass :: prepareSites measured wet margin (i + 1) counts.tail rs qs
  | _, _, _, _ => []

/-! ### The common-mode count (R33) -/

/-- The site would press at this completion: IDLE or CANDIDATE with its delta at or above the effective threshold. -/
def wouldPress (p : SitePass) : Bool :=
  match p.found with
  | .live _ _ d thr => (p.qual.state == .idle || p.qual.state == .candidate) && d ≥ thr
  | _ => false

/-! ### The state update (R34 to R36) -/

/-- The stuck test of a site expires (R36). -/
def stuckDue (limit now : Nat) (q : SiteQual) : Bool :=
  isHeld q.state && limit != 0 &&
    (match q.pressTime with
      | some t => limit * 1000 ≤ elapsed now t
      | none => false)

/-- The stuck expiry's effect on the site (R36). -/
def stuckSite (q : SiteQual) : SiteQual :=
  { q with state := .idle, pressTime := none, debounce := 0, reseed := true }

/-- The site becomes PRESSED (R34). -/
def pressSite (now : Nat) (q : SiteQual) : SiteQual := { q with state := .pressed, pressTime := some now, debounce := 0 }

/-- The site becomes IDLE after a release (R35). -/
def releaseSite (q : SiteQual) : SiteQual := { q with state := .idle, pressTime := none, debounce := 0 }

/-- The state update of a site against its delta and effective threshold (R34, R35), with the event it raises. -/
def stateUpdate (set : QualifySettings) (now : Nat) (rejected : Bool) (r : SiteRecord) (q : SiteQual) (d : Int)
    (thr : Nat) : SiteQual × Option KeyEvent :=
  let released := d < (r.thr : Int) - r.hyst
  match q.state with
  | .idle =>
    if rejected || d < thr then (q, none)
    else if set.np ≤ 1 then (pressSite now q, some .press)
    else ({ q with state := .candidate, debounce := 1 }, none)
  | .candidate =>
    if rejected || d < thr then ({ q with state := .idle, debounce := 0 }, none)
    else if q.debounce + 1 ≥ set.np then (pressSite now q, some .press)
    else ({ q with debounce := q.debounce + 1 }, none)
  | .pressed =>
    if !released then (q, none)
    else if set.nr ≤ 1 then (releaseSite q, some .release)
    else ({ q with state := .releasing, debounce := 1 }, none)
  | .releasing =>
    if !released then ({ q with state := .pressed, debounce := 0 }, none)
    else if q.debounce + 1 ≥ set.nr then (releaseSite q, some .release)
    else ({ q with debounce := q.debounce + 1 }, none)
  | _ => (q, none)

/-- The state update of one site that reached it, the stuck test first (R26, R36). -/
def updateSite (set : QualifySettings) (now : Nat) (rejected : Bool) (p : SitePass) : SitePass :=
  match p.found with
  | .live _ _ d thr =>
    if stuckDue set.stuck now p.qual then { p with qual := stuckSite p.qual, event := some (.forced .stuck) }
    else
      let u := stateUpdate set now rejected p.record p.qual d thr
      { p with qual := u.1, event := u.2 }
  | _ => p

/-! ### The baseline update (R38, R39) -/

/-- The baseline update of one site: the update where the four conditions hold; in a rejected completion, and without a count,
nothing; otherwise the negative run becomes 0 (R38). -/
def baselineSite (set : QualifySettings) (wet rejected : Bool) (p : SitePass) : SitePass :=
  match p.found with
  | .noCount => p
  | .live _ c d _ =>
    if rejected then p
    else if p.before = .idle && p.qual.state = .idle then
      let b := baselineUpdate set.rate wet (p.record.thr / 2) p.qual.base p.qual.negRun c d
      { p with qual := { p.qual with base := b.1, negRun := b.2 } }
    else { p with qual := { p.qual with negRun := 0 } }
  | _ => if rejected then p else { p with qual := { p.qual with negRun := 0 } }

/-! ### The snapshot (R50) -/

/-- The snapshot record of a site at a completion. -/
def snapshotOf (site now : Nat) (rejected : Bool) (p : SitePass) : Snapshot :=
  let base : Snapshot :=
    { site := site, time := now, state := p.qual.state, rejected := rejected
      raw := none, corrected := none, base := some p.qual.base, delta := none }
  match p.found with
  | .noCount => { base with base := none }
  | .stopped raw => { base with raw := some raw }
  | .reseeded raw c => { base with raw := some raw, corrected := some c, delta := some 0 }
  | .live raw c d _ => { base with raw := some raw, corrected := some c, delta := some d }

/-! ### A scan completion (R26) -/

/-- What a completion leaves: the guard, the sites, and whether it was rejected. -/
structure Completion where
  guard : GuardState
  sites : List SitePass
  rejected : Bool
  deriving DecidableEq, Repr

/-- The stages of a completion for the measured set, the guard's count and the electrodes' readings (R26). -/
def runStages (s : State) (measured : List Nat) (rg : Nat) (counts : List Count) : Completion :=
  let set := s.kq.settings
  let (g, gd) := evalGuard set.guardThr s.kq.guard rg
  let prepared := prepareSites measured g.wet set.wetMargin 0 counts s.kfs.records s.kq.quals
  let rejected : Bool := set.common ≤ prepared.countP wouldPress
  let updated := (prepared.map (updateSite set s.clock rejected)).map (baselineSite set g.wet rejected)
  { guard := if rejected then g else updateGuard set.guardThr set.rate g rg gd, sites := updated, rejected := rejected }

/-- A site entered FAULT at this completion (R27). -/
def SitePass.faulted (p : SitePass) : Bool := p.before != .fault && p.qual.state == .fault

/-- The stuck test of a site expired at this completion (R36). -/
def SitePass.stuck (p : SitePass) : Bool := p.event == some (.forced .stuck)

/-- The records, the qualification state, the counters and the snapshot after a completion (R26, R50, R51). -/
def storeCompletion (c : Completion) (s : State) : State :=
  let kq : Kq :=
    { s.kq with
      quals := c.sites.map SitePass.qual
      guard := c.guard
      rejectedScans := if c.rejected then bump s.kq.rejectedScans else s.kq.rejectedScans
      stuckExpiries := bumpBy s.kq.stuckExpiries (c.sites.countP SitePass.stuck)
      faultEntries := bumpBy s.kq.faultEntries (c.sites.countP SitePass.faulted)
      snapshot := (c.sites[s.kq.snapSelect]?).map (snapshotOf s.kq.snapSelect s.clock c.rejected) }
  (s.setKq kq).setKfs { s.kfs with records := c.sites.map SitePass.record, measured := none }

/-- The notices of a completion, each for both masters (R27, R36, R41). -/
def completionNotices (wasWet : Bool) (c : Completion) (s : State) : State :=
  raiseBothIf (c.sites.any SitePass.stuck) .stuck
    (raiseBothIf (c.sites.any SitePass.faulted) .keyFault (raiseBothIf (wasWet != c.guard.wet) .wet s))

/-! ### The router takes the events (R26, R37, R98) -/

/-- A PRESS of a site as the router takes it: code and class from the record as it stands (R9, R99). -/
def keyPress (s : State) (i : Nat) : Press :=
  let r := siteRecord s i
  { source := .site i, code := r.code, cls := r.cls, time := s.clock, kind := .press, body := .key r.code r.cls }

/-- The router takes one event of a site. A PRESS taken in STANDBY ends it (R204). -/
def takeKeyEvent (i : Nat) (ev : KeyEvent) (s : State) : State :=
  match ev with
  | .press => wake (takePress (keyPress s i) s)
  | .release => takeRelease (.site i) none (0, 0) s
  | .forced reason => takeRelease (.site i) (some reason) (0, 0) s

/-- The router takes the events of a completion in ascending order of site index (R26). -/
def takeEvents : Nat → List SitePass → State → State
  | _, [], s => s
  | i, p :: ps, s =>
    takeEvents (i + 1) ps (match p.event with
      | none => s
      | some ev => takeKeyEvent i ev s)

/-- A scan completion for the measured set (R26); the first one after a full reset then takes the lockout condition (R93). -/
def completeScan (measured : List Nat) (rg : Nat) (counts : List Count) (s : State) : State :=
  let c := runStages s measured rg counts
  firstCondition (takeEvents 0 c.sites (completionNotices s.kq.guard.wet c (storeCompletion c s)))

/-- The stuck expiry of one site as an event of its own (R36). -/
def expireStuck (i : Nat) (s : State) : State :=
  let s1 := takeRelease (.site i) (some .stuck) (0, 0) s
  let s2 := setSiteQual i (stuckSite (siteQual s i)) s1
  raiseBoth .stuck (s2.setKq { s2.kq with stuckExpiries := bump s2.kq.stuckExpiries })

/-! ### Enabling and disabling a site (R17, R18) -/

/-- The qualification record of a site just enabled (R17). -/
def enabledQual (q : SiteQual) : SiteQual :=
  { q with state := .idle, debounce := 0, negRun := 0, railRun := 0, clearRun := 0, pressTime := none, trim := none, reseed := true }

/-- The qualification record of a site just disabled (R18). -/
def disabledQual (q : SiteQual) : SiteQual :=
  { q with state := .off, debounce := 0, negRun := 0, railRun := 0, clearRun := 0, pressTime := none, trim := none, reseed := true }

/-- A site becomes enabled (R17). -/
def enableSite (i : Nat) (s : State) : State := setSiteQual i (enabledQual (siteQual s i)) s

/-- The record of a site just disabled takes a pending trim (R18). -/
def trimmedRecord (r : SiteRecord) (q : SiteQual) : SiteRecord :=
  match q.trim with
  | some t => { r with offset := t.offset, gain := t.gain }
  | none => r

/-- A site becomes disabled: a CONFIG forced release if it is held, then OFF; the scan in progress carries no count for it (R12,
R18). -/
def disableSite (i : Nat) (s : State) : State :=
  let q := siteQual s i
  let s1 := if isHeld q.state then takeRelease (.site i) (some .config) (0, 0) s else s
  let s2 := setSiteQual i (disabledQual q) (setSiteRecord i (trimmedRecord (siteRecord s i) q) s1)
  s2.setKfs { s2.kfs with measured := s2.kfs.measured.map (fun m => m.filter (fun j => j != i)) }

/-- A site's enabled field has been written over an old value (R17, R18). -/
def enabledChange (i : Nat) (old new : Bool) (s : State) : State :=
  if old == new then s else if new then enableSite i s else disableSite i s

/-! ### Qualification settings (R43, R47) -/

/-- The guard is switched off (R43). -/
def guardOff (g : GuardState) : GuardState :=
  { g with wet := false, wetRun := 0, dryRun := 0, negRun := 0, reseed := true }

/-- The qualification settings are replaced; a guard threshold that becomes 0 switches the guard off (R43, R47). -/
def setQualifySettings (new : QualifySettings) (s : State) : State :=
  let off := s.kq.settings.guardThr != 0 && new.guardThr == 0
  let s1 := s.setKq { s.kq with settings := new, guard := if off then guardOff s.kq.guard else s.kq.guard }
  raiseBothIf (off && s.kq.guard.wet) .wet s1

/-! ### An operational settings load (R48) -/

/-- A site that stays enabled at a load keeps its state, its trim gone and its reseed flag set; a CANDIDATE returns to IDLE
(R48). -/
def reloadedQual (q : SiteQual) : SiteQual :=
  let q1 := { q with trim := none, reseed := true }
  if q.state = .candidate then { q1 with state := .idle, debounce := 0 } else q1

/-- What the load does to one site whose enabled field was `old` (R48). -/
def reloadSite (i : Nat) (old : Bool) (s : State) : State :=
  let new := (siteRecord s i).enabled
  if old && new then setSiteQual i (reloadedQual (siteQual s i)) s else enabledChange i old new s

/-- What the load does to the sites from `i` on, given their old records (R48). -/
def reloadSites : Nat → List SiteRecord → State → State
  | _, [], s => s
  | i, r :: rs, s => reloadSites (i + 1) rs (reloadSite i r.enabled s)

/-- The site records and the qualification settings of a load taken in operation are put in place, and the KQ acts on each site
(R43, R48). -/
def loadQualification (sites : List SiteRecord) (new : QualifySettings) (s : State) : State :=
  let s1 := setQualifySettings new (s.setKfs { s.kfs with records := sites })
  let s2 := s1.setKq { s1.kq with guard := { s1.kq.guard with reseed := true } }
  reloadSites 0 s.kfs.records s2

end Sys2Proof.Machine
end

