-- ==== Sys2Proof/Machine/Lines.lean ====
section
/-! DEFINITION. The Auxiliary Line Block and the installation (9.4). -/

namespace Sys2Proof.Machine

/-- A line as it stands once it is given its setup: an input line's debounced level is none and its debounce timer starts with
the present raw level; any other line has neither (R189). -/
def freshLine (now : Nat) (l : LineSetup) (raw : Bool) : Line :=
  { raw := raw, debounced := none, timer := if l.isInput then some { start := now, span := 20 } else none }

/-- The lines after a change of their setups: one whose mode and function are unchanged keeps its level and timer (R190). -/
def changeLines (now : Nat) : List LineSetup → List LineSetup → List Line → List Line
  | old :: olds, new :: news, l :: ls =>
    (if old = new then l else freshLine now new l.raw) :: changeLines now olds news ls
  | _, _, ls => ls

/-- An accepted installation is put in place: the lines at once, then the signals' sources and lines; the base and rate in
force do not change (R76, R190). A line that leaves an input mode in the same change as its signal goes to CAN gives no report of its
own: the signal changes once (R189; log entry 25). -/
def installNow (new : Installation) (s : State) : State :=
  resourceSignals
    (s.setAxl { install := new, lines := changeLines s.clock s.axl.install.lines new.lines s.axl.lines })

/-- A line's raw level changes; an input line's debounce timer starts afresh (R189). -/
def changeLevel (i : Nat) (high : Bool) (s : State) : State :=
  match s.axl.lines[i]?, s.axl.install.lines[i]? with
  | some l, some setup =>
    if l.raw = high then s
    else
      let timer := if setup.isInput then some (startTimer s 20) else none
      s.setAxl { s.axl with lines := s.axl.lines.set i { l with raw := high, timer := timer } }
  | _, _ => s

/-- A line's debounce timer expires: a debounced level that differs from the raw level, or is none, becomes it and is reported to
the lockout unit (R189). -/
def debounceLine (i : Nat) (s : State) : State :=
  match s.axl.lines[i]?, s.axl.install.lines[i]? with
  | some l, some setup =>
    if dueTimer l.timer s.clock then
      let s1 := s.setAxl { s.axl with lines := s.axl.lines.set i { l with debounced := some l.raw, timer := none } }
      if l.debounced = some l.raw then s1 else lineReport setup.function s1
    else s
  | _, _ => s

/-! ### Checks of an installation (R190, R191) -/

/-- A line's setup names a function exactly if its mode is an input mode. -/
def setupLegal (l : LineSetup) : Bool := l.isInput == (l.function != .none)

/-- No two input lines hold the same function. -/
def functionsDistinct : List LineSetup → Bool
  | [] => true
  | l :: ls => !(l.isInput && ls.any (fun k => k.isInput && k.function == l.function)) && functionsDistinct ls

end Sys2Proof.Machine
end

