-- ==== Sys2Proof/Machine/Operands.lean ====
section
/-! DEFINITION. The forms of the commands' operands: reading the fields of an argument string (R205, R206), and the codes of
the named values in both directions (R208). A code with no meaning reads as `none`. -/

namespace Sys2Proof.Machine

/-! ### Reading argument fields (R205) -/

/-- The one-byte field at a place of the argument string. -/
def arg8 (args : List Byte) (i : Nat) : Nat := (args.getD i 0#8).toNat

/-- The two-byte field at a place, most significant byte first. -/
def arg16 (args : List Byte) (i : Nat) : Nat := arg8 args i * 256 + arg8 args (i + 1)

/-- The signed two-byte field at a place, in two's complement. -/
def argSigned (args : List Byte) (i : Nat) : Int := (BitVec.ofNat 16 (arg16 args i)).toInt

/-- The notice word at a place (R205). -/
def argNotices (args : List Byte) (i : Nat) : NoticeWord := BitVec.ofNat 16 (arg16 args i)

/-- The mask names only notices that exist: bits 13 to 15 are clear (R205). -/
def noticesExist (w : NoticeWord) : Bool := w &&& ~~~allNotices == 0#16

/-! ### Codes read (R208) -/

/-- A yes/no, on/off or clear/set field (R205). -/
def yesNo : Nat → Option Bool
  | 0 => some false
  | 1 => some true
  | _ => none

/-- A route code. -/
def routeOf : Nat → Option Route
  | 0 => some .none
  | 1 => some .tablet
  | 2 => some .gateway
  | 3 => some .both
  | 4 => some .follow
  | _ => none

/-- A lockout mode code. -/
def modeOf : Nat → Option LockMode
  | 0 => some .off
  | 1 => some .on
  | 2 => some .onLocked
  | _ => none

/-- A rate code. -/
def rateOf : Nat → Option Rate
  | 0 => some .r250
  | 1 => some .r500
  | _ => none

/-- A signal source code. -/
def sourceOf : Nat → Option SignalSource
  | 0 => some .can
  | 1 => some .aux
  | _ => none

/-- A line mode code. -/
def lineModeOf : Nat → Option LineMode
  | 0 => some .disabled
  | 1 => some .inputHigh
  | 2 => some .inputLow
  | 3 => some .outputLockout
  | 4 => some .outputFault
  | _ => none

/-- A line function code. -/
def lineFunctionOf : Nat → Option LineFunction
  | 0 => some .none
  | 1 => some .brake
  | 2 => some .reverse
  | 3 => some .ignition
  | 4 => some .night
  | _ => none

/-! ### Codes sent (R208) -/

/-- A yes/no, on/off or clear/set field. -/
def boolCode (b : Bool) : Nat := if b then 1 else 0

/-- The status codes. -/
def statusCode : Status → Nat
  | .ok => 0 | .busy => 1 | .locked => 2 | .range => 3 | .illegal => 4 | .denied => 5 | .state => 6 | .unknown => 7 | .format => 8

/-- The report kinds. -/
def kindCode : Kind → Nat
  | .press => 1 | .release => 2 | .repetition => 3 | .forcedRelease => 4 | .touchDown => 5 | .touchMove => 6 | .touchUp => 7
  | .forcedTouchUp => 8

/-- The reasons, 00h where absent (R207). -/
def reasonCode : Option Reason → Nat
  | none => 0
  | some .lockout => 1
  | some .stuck => 2
  | some .fault => 3
  | some .config => 4
  | some .touch => 5

/-- The routes. -/
def routeCode : Route → Nat
  | .none => 0 | .tablet => 1 | .gateway => 2 | .both => 3 | .follow => 4

/-- The site states. -/
def siteStateCode : SiteState → Nat
  | .off => 0 | .idle => 1 | .candidate => 2 | .pressed => 3 | .releasing => 4 | .fault => 5

/-- The motion states. -/
def motionCode : Motion → Nat
  | .parked => 0 | .moving => 1 | .unknown => 2

/-- The lockout modes. -/
def modeCode : LockMode → Nat
  | .off => 0 | .on => 1 | .onLocked => 2

/-- The lockout states. -/
def lockoutCode : Lockout → Nat
  | .opened => 0 | .engaging => 1 | .engaged => 2

/-- The display sources. -/
def pictureCode : Picture → Nat
  | .blank => 0 | .tablet => 1 | .gateway => 2

/-- The contact states. -/
def contactCode : Contact → Nat
  | .none => 0 | .down => 1 | .fault => 2

/-- The link states. -/
def linkCode : Link → Nat
  | .absent => 0 | .settling => 1 | .waiting => 2 | .up => 3 | .stale => 4

/-- The reset causes. -/
def causeCode : ResetCause → Nat
  | .powerOn => 1 | .supplyDip => 2 | .commanded => 3

/-- The rates. -/
def rateCode : Rate → Nat
  | .r250 => 0 | .r500 => 1

/-- The signal sources. -/
def sourceCode : SignalSource → Nat
  | .can => 0 | .aux => 1

/-- The line modes. -/
def lineModeCode : LineMode → Nat
  | .disabled => 0 | .inputHigh => 1 | .inputLow => 2 | .outputLockout => 3 | .outputFault => 4

/-- The line functions. -/
def lineFunctionCode : LineFunction → Nat
  | .none => 0 | .brake => 1 | .reverse => 2 | .ignition => 3 | .night => 4

/-- A signal value or a debounced level: FFh where it is not available or none. -/
def levelCode : Option Bool → Nat
  | none => 0xFF
  | some b => boolCode b

/-- The source of a held entry: the site index, FFh for touch (R205). -/
def entrySourceCode : Source → Nat
  | .site i => i
  | .touch => 0xFF

/-- The owner set: bit 0 TABLET, bit 1 GATEWAY (R209). -/
def ownersCode (o : Owners) : Nat := boolCode o.tablet + 2 * boolCode o.gateway

/-- The class flags byte: repeat, exempt, divert and locked in bits 0 to 3 (R206). -/
def classFlagsCode (e : ClassEntry) : Nat :=
  boolCode e.repeats + 2 * boolCode e.exempt + 4 * boolCode e.divert + 8 * boolCode e.locked

/-- A queue's flags byte: draining in bit 0, gap in bit 1 (R209). -/
def queueFlagsCode (q : Queue) : Nat := boolCode q.draining + 2 * boolCode q.gap

/-- A two-byte quantity that may be absent: FFFFh where it is (R205). -/
def optWord : Option Nat → List Byte
  | none => word 0xFFFF
  | some n => word n

/-! ### Report records (R207) -/

/-- A report's 11-byte record. -/
def reportBytes (r : Report) : List Byte :=
  [byte (kindCode r.kind), byte (boolCode r.gap)] ++ word r.seq ++ word r.time ++
    (match r.body with
      | .key code cls => [byte code, byte cls, 0#8, 0#8]
      | .touch x y => word x ++ word y) ++
    [byte (reasonCode r.reason)]

/-! ### Frames sent (R164, R206, R210) -/

/-- A dock link frame: SYNC, LENGTH, TYPE, payload and CRC-8 (R164). -/
def dockFrameBytes (type : Byte) (payload : List Byte) : List Byte :=
  [0xA5#8, byte payload.length, type] ++ payload ++ [crc8 ([byte payload.length, type] ++ payload)]

/-- The 12-byte data field of a KEY_REPORT: the report record, then 00h (R207, R210). -/
def keyReportData (r : Report) : List Byte := padTo 12 (reportBytes r)

/-- A frame that the part sends, `offset` from the base in force, at the rate in force (R176, R210). -/
def sentFrame (v : Vp) (offset : Nat) (format : CanFormat) (data : List Byte) : BusFrame :=
  { id := v.base + offset, format := format, rate := v.rate, data := data }

/-- The COMMAND_REPLY of a segment: base + 2, in the flexible data-rate format (R176, R210). -/
def replyFrame (v : Vp) (segment : List Byte) : BusFrame := sentFrame v 2 .flexible segment

/-- The KEY_REPORT of a report: base + 3, in the flexible data-rate format (R176, R210). -/
def keyReportFrame (v : Vp) (r : Report) : BusFrame := sentFrame v 3 .flexible (keyReportData r)

/-- The PART_STATUS with these data: base + 4, in the classical format (R176, R210). -/
def partStatusFrame (v : Vp) (data : List Byte) : BusFrame := sentFrame v 4 .classical data

/-! ### Frames received (R176, R177) -/

/-- The vehicle port takes a received frame as the gateway frame `offset` from the base in force, 0 for VEHICLE_STATE and 1 for
GATEWAY_COMMAND, in either format: the identifier is 11 bits long, and it is a data frame (R176, R177, R210). -/
def takesFrame (v : Vp) (offset : Nat) (h : CanHeader) : Bool := !h.extended && !h.remote && h.id == v.base + offset

/-- The segments of a reply after the first: nine payload bytes each (R210). -/
def laterSegments (code : Byte) : Nat → Nat → List Byte → List (List Byte)
  | 0, _, _ => []
  | fuel + 1, index, rest =>
    match rest with
    | [] => []
    | _ :: _ =>
      ([code, byte index, byte (boolCode (rest.length ≤ 9))] ++ padTo 9 rest) ::
        laterSegments code fuel (index + 1) (rest.drop 9)

/-- The COMMAND_REPLY segments of a reply, 12 data bytes each, the first with the status code and eight payload bytes (R183,
R210). A reply has at most sixteen. -/
def replySegments (code : Byte) (status : Status) (payload : List Byte) : List (List Byte) :=
  ([code, 0#8, byte (boolCode (payload.length ≤ 8)), byte (statusCode status)] ++ padTo 8 payload) ::
    laterSegments code 15 1 (payload.drop 8)

end Sys2Proof.Machine
end

