-- ==== Sys2Proof/Machine/Image.lean ====
section
/-! DEFINITION. The settings image: how its pages hold the settings (R212), how a load validates them (R193 and the rules it
names), and how a page is written, well or not (R192, R197). -/

namespace Sys2Proof.Machine

/-! ### Pages written (R212) -/

/-- A number in `n` bytes, most significant byte first. -/
def beBytes : Nat → Nat → List Byte
  | 0, _ => []
  | n + 1, x => byte (x / 256 ^ n) :: beBytes n x

/-- A number read from bytes, most significant byte first. -/
def beNat (bs : List Byte) : Nat := bs.foldl (fun acc b => acc * 256 + b.toNat) 0

/-- The 48-bit field of a site record (R212). -/
def siteField (r : SiteRecord) : Nat :=
  boolCode r.enabled * 2 ^ 45 + r.cls * 2 ^ 41 + r.thr * 2 ^ 31 + r.hyst * 2 ^ 21 +
    (BitVec.ofInt 10 r.offset).toNat * 2 ^ 11 + r.gain

/-- A site record's seven bytes (R212). -/
def siteBytes (r : SiteRecord) : List Byte := byte r.code :: beBytes 6 (siteField r)

/-- The qualification settings in the order and widths of SET_QUALIFY (R206, R212). -/
def qualifyBytes (q : QualifySettings) : List Byte :=
  [byte q.period, byte q.np, byte q.nr, byte q.rate, byte q.common, byte q.stuck] ++ word q.guardThr ++ word q.wetMargin

/-- The lockout parameters in the order and widths of LOCKOUT_PARAMS (R206). -/
def paramsBytes (p : LockParams) : List Byte :=
  word p.son ++ word p.soff ++ word p.grace ++ [byte (boolCode p.brakeRequired)]

/-- The touch calibration in the order and widths of SET_TOUCH_CAL (R206). -/
def calBytes (c : TouchCal) : List Byte := word c.xmin ++ word c.xmax ++ word c.ymin ++ word c.ymax

/-- A stored class entry: the route code, then repeat, exempt and divert in bits 0 to 2 (R212). -/
def classBytes (e : ClassEntry) : List Byte :=
  [byte (routeCode e.route), byte (classFlagsCode { e with locked := false })]

/-- A line's mode and function. -/
def setupBytes (l : LineSetup) : List Byte := [byte (lineModeCode l.mode), byte (lineFunctionCode l.function)]

/-- The installation in the order and widths of SET_INSTALL (R206, R212). -/
def installBytes (i : Installation) : List Byte :=
  word i.base ++
    [byte (rateCode i.rate), byte (sourceCode i.reverse), byte (sourceCode i.ignition), byte (sourceCode i.brake),
      byte (sourceCode i.night)] ++
    i.lines.flatMap setupBytes

/-- The content of a page 1..15, before its filling with 00h (R212). -/
def pageFields (c : Settings) (page : Nat) : List Byte :=
  if page ≤ 12 then (((c.sites.drop (8 * (page - 1))).take 8).flatMap siteBytes)
  else if page = 13 then
    qualifyBytes c.qualify ++ (word c.delay ++ [byte c.interval]) ++ ([byte (modeCode c.mode)] ++ paramsBytes c.params)
  else if page = 14 then c.classes.flatMap classBytes ++ calBytes c.cal ++ [byte c.gain, byte c.nightCap]
  else installBytes c.install

/-- The page that one of the 17 writes of a save writes (R197). -/
def writePage (write : Nat) : Nat := if write = 17 then 0 else write - 1

/-- The content that a write puts on its page: the header with the identifier cleared at write 1 and valid at write 17, and the
stored settings from the copy between them (R197). -/
def writeFields (c : Settings) (write : Nat) : List Byte :=
  if write = 1 then word 0 else if write = 17 then word Config.identifier else pageFields c (write - 1)

/-- A page of 64 bytes: 63 content bytes and the page check (R212). -/
def pageBytes (fields : List Byte) : List Byte :=
  let content := padTo 63 fields
  content ++ [crc8 content]

/-- A page written and verified. -/
def writeWholePage (page : Nat) (fields : List Byte) (m : Memory) : Memory := memWriteBytes m (64 * page) (pageBytes fields)

/-- The content of a page whose write was cut off or failed its verification: free bytes, drawn from the `free`-th on. -/
def tornContent (free : Nat) : List Byte := (List.range 63).map fun j => Config.freeByte (free + j)

/-- What is added to the check of such a page: any value but 0, so that the page is not sound. -/
def tornCheck (free : Nat) : Byte := if Config.freeByte (free + 63) = 0#8 then 1#8 else Config.freeByte (free + 63)

/-- The bytes of such a page. -/
def tornPage (free : Nat) : List Byte := tornContent free ++ [crc8 (tornContent free) ^^^ tornCheck free]

/-- A page left not sound (R192, R197, R198): its bytes are free values, but for its check, which does not match. -/
def tearPage (page : Nat) (s : State) : State :=
  (s.setSst { s.sst with image := memWriteBytes s.sst.image (64 * page) (tornPage s.free) }).setFree (s.free + 64)

/-! ### Pages read (R192, R193, R212) -/

/-- The 64 bytes of a page. -/
def readPage (m : Memory) (page : Nat) : List Byte := memReadBytes m (64 * page) 64

/-- A page's check matches its content (R192). -/
def soundPage (bytes : List Byte) : Bool := crc8 (bytes.take 63) == bytes.getD 63 0#8

/-- The image has a sound page 0 with the identifier 4E7Bh (R193). -/
def imageValid (m : Memory) : Bool :=
  let p := readPage m 0
  soundPage p && arg16 p 0 == Config.identifier

/-- A validated value, and whether it replaces the stored one (R193). -/
structure Checked (α : Type) where
  value : α
  replaced : Bool
  deriving DecidableEq, Repr

/-- The stored value if it is legal, else its replacement. -/
def orDefault {α : Type} (ok : Bool) (stored default : α) : Checked α :=
  if ok then { value := stored, replaced := false } else { value := default, replaced := true }

/-- A code's meaning if it has one, else the default. -/
def codeOr {α : Type} (stored : Option α) (default : α) : Checked α :=
  match stored with
  | some v => { value := v, replaced := false }
  | none => { value := default, replaced := true }

/-- A bit field of a number. -/
def bits (x lo width : Nat) : Nat := x / 2 ^ lo % 2 ^ width

/-- The hysteresis that stands in for one that exceeds T − 4: the default 20, or T − 4 where 20 exceeds it (R10). -/
def hystDefault (thr : Nat) : Nat := if 20 + 4 ≤ thr then 20 else thr - 4

/-- A stored site record checked field by field (R10, R212). -/
def checkSite (i : Nat) (b : List Byte) : Checked SiteRecord :=
  let f := beNat ((b.drop 1).take 6)
  let d := defaultSite i
  let cls := orDefault (bits f 41 4 ≤ 14) (bits f 41 4) d.cls
  let thr := orDefault (8 ≤ bits f 31 10) (bits f 31 10) d.thr
  let hyst := orDefault (bits f 21 10 + 4 ≤ thr.value) (bits f 21 10) (hystDefault thr.value)
  { value :=
      { enabled := bits f 45 1 == 1, code := arg8 b 0, cls := cls.value, thr := thr.value, hyst := hyst.value
        offset := (BitVec.ofNat 10 (bits f 11 10)).toInt, gain := bits f 0 11 }
    replaced := cls.replaced || thr.replaced || hyst.replaced }

/-- A scan period is one of the four legal ones (R13). -/
def periodLegal (p : Nat) : Bool := p == 8 || p == 12 || p == 16 || p == 24

/-- A stuck limit in seconds is in its range (R25). -/
def stuckLegal (n : Nat) : Bool := n == 0 || (5 ≤ n && n ≤ 60)

/-- A guard threshold is in its range (R25). -/
def guardLegal (n : Nat) : Bool := n == 0 || (16 ≤ n && n ≤ 1023)

/-- The stored qualification settings checked (R25, R212). -/
def checkQualify (b : List Byte) : Checked QualifySettings :=
  let d := defaultQualify
  let period := orDefault (periodLegal (arg8 b 0)) (arg8 b 0) d.period
  let np := orDefault (1 ≤ arg8 b 1 && arg8 b 1 ≤ 7) (arg8 b 1) d.np
  let nr := orDefault (1 ≤ arg8 b 2 && arg8 b 2 ≤ 7) (arg8 b 2) d.nr
  let rate := orDefault (4 ≤ arg8 b 3 && arg8 b 3 ≤ 7) (arg8 b 3) d.rate
  let common := orDefault (2 ≤ arg8 b 4 && arg8 b 4 ≤ 12) (arg8 b 4) d.common
  let stuck := orDefault (stuckLegal (arg8 b 5)) (arg8 b 5) d.stuck
  let guardThr := orDefault (guardLegal (arg16 b 6)) (arg16 b 6) d.guardThr
  let margin := orDefault (arg16 b 8 ≤ 1023) (arg16 b 8) d.wetMargin
  { value :=
      { period := period.value, np := np.value, nr := nr.value, rate := rate.value, common := common.value
        stuck := stuck.value, guardThr := guardThr.value, wetMargin := margin.value }
    replaced :=
      period.replaced || np.replaced || nr.replaced || rate.replaced || common.replaced || stuck.replaced ||
        guardThr.replaced || margin.replaced }

/-- The stored lockout parameters checked (R84, R212). -/
def checkParams (b : List Byte) : Checked LockParams :=
  let d := defaultParams
  let son := orDefault (10 ≤ arg16 b 0 && arg16 b 0 ≤ 1000) (arg16 b 0) d.son
  let soff := orDefault (arg16 b 2 + 10 ≤ son.value) (arg16 b 2) (min d.soff (son.value - 10))
  let grace := orDefault (500 ≤ arg16 b 4 && arg16 b 4 ≤ 5000) (arg16 b 4) d.grace
  let brake := codeOr (yesNo (arg8 b 6)) d.brakeRequired
  { value := { son := son.value, soff := soff.value, grace := grace.value, brakeRequired := brake.value }
    replaced := son.replaced || soff.replaced || grace.replaced || brake.replaced }

/-- A stored lockout mode is OFF or ON (R84). -/
def storedMode (n : Nat) : Option LockMode :=
  match n with
  | 0 => some .off
  | 1 => some .on
  | _ => none

/-- A class 15 entry's route is FOLLOW or NONE (R55). -/
def touchRoute (r : Route) : Bool := r == .follow || r == .none

/-- A stored class entry checked (R53, R212). -/
def checkClass (cls : Nat) (b : List Byte) : Checked ClassEntry :=
  let d := defaultClass cls
  let flags := arg8 b 1
  let coded := codeOr (routeOf (arg8 b 0)) d.route
  let route := orDefault (cls != 15 || touchRoute coded.value) coded.value .follow
  let repeats := orDefault (cls != 15 || !flags.testBit 0) (flags.testBit 0) false
  { value :=
      { route := route.value, repeats := repeats.value, exempt := flags.testBit 1, divert := flags.testBit 2, locked := false }
    replaced := coded.replaced || route.replaced || repeats.replaced }

/-- One axis of the calibration: both fields in range and 256 or more apart (R149). -/
def checkAxis (lo hi : Nat) : Checked (Nat × Nat) :=
  let l := orDefault (lo ≤ 4095) lo 0
  let h := orDefault (hi ≤ 4095) hi 4095
  let both := orDefault (l.value + 256 ≤ h.value) (l.value, h.value) (0, 4095)
  { value := both.value, replaced := l.replaced || h.replaced || both.replaced }

/-- The stored touch calibration checked (R149, R212). -/
def checkCal (b : List Byte) : Checked TouchCal :=
  let x := checkAxis (arg16 b 0) (arg16 b 2)
  let y := checkAxis (arg16 b 4) (arg16 b 6)
  { value := { xmin := x.value.1, xmax := x.value.2, ymin := y.value.1, ymax := y.value.2 }
    replaced := x.replaced || y.replaced }

/-- The setup that a line's stored mode and function spell, if both are in range (R191). -/
def setupOf (mode function : Nat) : Option LineSetup :=
  match lineModeOf mode, lineFunctionOf function with
  | some m, some f => some { mode := m, function := f }
  | _, _ => none

/-- The stored lines checked one after another: a line that is not legal, or whose function a lower-numbered input line holds,
becomes DISABLED (R191). `lower` are the lower-numbered lines as checked. -/
def checkLines (lower : List LineSetup) : List (Option LineSetup) → Checked (List LineSetup)
  | [] => { value := [], replaced := false }
  | l :: ls =>
    let ok := fun k : LineSetup =>
      setupLegal k && !(k.isInput && lower.any (fun j => j.isInput && j.function == k.function))
    let one : Checked LineSetup :=
      match l with
      | some k => orDefault (ok k) k disabledLine
      | none => { value := disabledLine, replaced := true }
    let rest := checkLines (lower ++ [one.value]) ls
    { value := one.value :: rest.value, replaced := one.replaced || rest.replaced }

/-- The stored installation checked (R191, R212). -/
def checkInstall (b : List Byte) : Checked Installation :=
  let d := defaultInstallation
  let base := orDefault (arg16 b 0 ≤ 0x7FB) (arg16 b 0) d.base
  let rate := codeOr (rateOf (arg8 b 2)) d.rate
  let reverse := codeOr (sourceOf (arg8 b 3)) d.reverse
  let ignition := codeOr (sourceOf (arg8 b 4)) d.ignition
  let brake := codeOr (sourceOf (arg8 b 5)) d.brake
  let night := codeOr (sourceOf (arg8 b 6)) d.night
  let lines :=
    checkLines []
      [setupOf (arg8 b 7) (arg8 b 8), setupOf (arg8 b 9) (arg8 b 10), setupOf (arg8 b 11) (arg8 b 12),
        setupOf (arg8 b 13) (arg8 b 14)]
  { value :=
      { base := base.value, rate := rate.value, reverse := reverse.value, ignition := ignition.value, brake := brake.value
        night := night.value, lines := lines.value }
    replaced :=
      base.replaced || rate.replaced || reverse.replaced || ignition.replaced || brake.replaced || night.replaced ||
        lines.replaced }

/-- The site record that a load takes for a site: checked where its page is sound, the default where it is not (R193). -/
def loadSite (m : Memory) (i : Nat) : Checked SiteRecord :=
  let p := readPage m (1 + i / 8)
  if soundPage p then checkSite i ((p.drop (7 * (i % 8))).take 7) else { value := defaultSite i, replaced := true }

/-- What a page holds beside site records, checked where the page is sound and at its defaults where it is not (R193). -/
def loadPart {α : Type} (m : Memory) (page start : Nat) (check : List Byte → Checked α) (default : α) : Checked α :=
  let p := readPage m page
  if soundPage p then check (p.drop start) else { value := default, replaced := true }

/-- What a load finds: the validated settings, whether anything was replaced, and defaults in use (R193). -/
structure Loaded where
  settings : Settings
  replaced : Bool
  defaultsInUse : Bool
  deriving DecidableEq, Repr

/-- The settings of an image with a valid header, page by page and field by field (R193). -/
def loadPages (m : Memory) : Loaded :=
  let f := factorySettings
  let sites := (List.range 96).map (loadSite m)
  let qualify := loadPart m 13 0 checkQualify f.qualify
  let delay := loadPart m 13 10 (fun b => orDefault (250 ≤ arg16 b 0 && arg16 b 0 ≤ 1000) (arg16 b 0) f.delay) f.delay
  let interval := loadPart m 13 12 (fun b => orDefault (20 ≤ arg8 b 0 && arg8 b 0 ≤ 200) (arg8 b 0) f.interval) f.interval
  let mode := loadPart m 13 13 (fun b => codeOr (storedMode (arg8 b 0)) f.mode) f.mode
  let params := loadPart m 13 14 checkParams f.params
  let classes := (List.range 16).map fun c => loadPart m 14 (2 * c) (checkClass c) (defaultClass c)
  let cal := loadPart m 14 32 checkCal f.cal
  let gain := loadPart m 14 40 (fun b => orDefault true (arg8 b 0) f.gain) f.gain
  let cap := loadPart m 14 41 (fun b => orDefault (8 ≤ arg8 b 0) (arg8 b 0) f.nightCap) f.nightCap
  let install := loadPart m 15 0 checkInstall f.install
  { settings :=
      { sites := sites.map Checked.value, qualify := qualify.value, classes := classes.map Checked.value
        delay := delay.value, interval := interval.value, mode := mode.value, params := params.value, cal := cal.value
        gain := gain.value, nightCap := cap.value, install := install.value }
    replaced :=
      sites.any Checked.replaced || qualify.replaced || delay.replaced || interval.replaced || mode.replaced ||
        params.replaced || classes.any Checked.replaced || cal.replaced || gain.replaced || cap.replaced ||
        install.replaced
    defaultsInUse := false }

/-- The load of R193: an image without a valid header is set aside whole. -/
def loadImage (m : Memory) : Loaded :=
  if imageValid m then loadPages m else { settings := factorySettings, replaced := true, defaultsInUse := true }

/-! ### The working settings (R196) -/

/-- The copy of the working settings that a save writes: the records' own trims, the live entries without their locks, ON_LOCKED as ON,
the base and rate as set, and the user gain as it stands (R196). -/
def workingSettings (s : State) : Settings :=
  { sites := s.kfs.records
    qualify := s.kq.settings
    classes := s.crm.live.map fun e => { e with locked := false }
    delay := s.kr.delay
    interval := s.kr.interval
    mode := if s.mlu.mode = .off then .off else .on
    params := s.mlu.params
    cal := s.tpi.cal
    gain := s.blr.gain
    nightCap := s.blr.nightCap
    install := s.axl.install }

end Sys2Proof.Machine
end

