-- ==== Sys2Proof/Machine/Reset.lean ====
section
/-! DEFINITION. The settings store's saves and loads, full reset and start-up (Section 10). -/

namespace Sys2Proof.Machine

/-! ### Saving (R196, R197) -/

/-- A save starts: the copy is taken, the stored user gain becomes U, and write 1 begins (R196). -/
def startSave (s : State) : State :=
  s.setSst
    { s.sst with
      save := some { copy := workingSettings s, write := 1, timer := startTimer s Config.pageWriteTime }
      storedGain := s.blr.gain }

/-- The save ends with a notice for both masters, and the store state becomes IDLE (R197). -/
def endSave (n : Notice) (s : State) : State := raiseBoth n (s.setSst { s.sst with save := none })

/-- A page write ends (R197): verified, the next write begins or the save ends with STORE_DONE; not verified, the page is not
sound and the save ends with STORE_FAIL. -/
def endPageWrite (w : Save) (verified : Bool) (s : State) : State :=
  if verified then
    let s1 := s.setSst { s.sst with image := writeWholePage (writePage w.write) (writeFields w.copy w.write) s.sst.image }
    if w.write < 17 then
      s1.setSst
        { s1.sst with save := some { copy := w.copy, write := w.write + 1, timer := w.timer.next Config.pageWriteTime } }
    else endSave .storeDone s1
  else endSave .storeFail (tearPage (writePage w.write) s)

/-- A full reset cuts a save off: the page being written is not sound (R198). -/
def cutSave (s : State) : State :=
  match s.sst.save with
  | none => s
  | some w => tearPage (writePage w.write) s

/-! ### Loading in operation (R195) -/

/-- The loaded class map: every class whose live entry is not locked is replaced (R66). -/
def loadClasses : List ClassEntry → List ClassEntry → List ClassEntry
  | e :: es, l :: ls => (if e.locked then e else l) :: loadClasses es ls
  | es, _ => es

/-- The settings of a load taken in operation are put in place (R195), in the order of its table, which is the model's choice: R48, R66,
R109 and R195 give none (log entry 24). -/
def applyLoad (l : Loaded) (s : State) : State :=
  let c := l.settings
  let s1 := loadQualification c.sites c.qualify s
  let s2 := changeLiveMap (loadClasses s1.crm.live c.classes) s1
  let s3 := s2.setKr { s2.kr with delay := c.delay, interval := c.interval }
  let s4 := s3.setTpi { s3.tpi with cal := c.cal }
  let s5 := setGain c.gain (s4.setSst { s4.sst with storedGain := c.gain, defaultsInUse := l.defaultsInUse })
  let s6 := applyCap (s5.setBlr { s5.blr with nightCap := c.nightCap })
  let s7 := installNow c.install s6
  raiseBothIf l.replaced .storeDefaulted s7

/-! ### Full reset (R200, R201) -/

/-- Every block at its reset value, with what no reset changes: the image, the levels on the input pins, the count of free
values and the queue of waiting commands (R200, R201). -/
def bareState (s : State) : State :=
  { State.reset with
    dlp := { State.reset.dlp with tpres := s.dlp.tpres, notices := 0#16 }
    vp := { State.reset.vp with notices := 0#16, statusDue := false }
    tpi := { State.reset.tpi with interrupt := s.tpi.interrupt }
    axl := { State.reset.axl with lines := s.axl.lines.map fun l => { l with debounced := none, timer := none } }
    sst := { State.reset.sst with image := s.sst.image }
    free := s.free
    pending := s.pending }

/-- The lines at the end of a reset: each input line's debounce starts with its raw level (R189, R201). -/
def resetLines : List LineSetup → List Line → List Line
  | n :: ns, l :: ls => freshLine 0 n l.raw :: resetLines ns ls
  | _, ls => ls

/-- The validated settings are put in place in the blocks, which take them as their reset values (R194). -/
def placeSettings (c : Settings) (s : State) : State :=
  { s with
    kfs := { s.kfs with records := c.sites, period := c.qualify.period }
    kq := { s.kq with quals := c.sites.map resetQual, settings := c.qualify }
    crm := { s.crm with live := c.classes }
    mlu := { s.mlu with mode := c.mode, params := c.params }
    kr := { s.kr with delay := c.delay, interval := c.interval }
    tpi := { s.tpi with cal := c.cal }
    blr := { s.blr with gain := c.gain, nightCap := c.nightCap }
    vp := { s.vp with base := c.install.base, rate := c.install.rate }
    axl := { install := c.install, lines := resetLines c.install.lines s.axl.lines }
    sst := { s.sst with storedGain := c.gain } }

/-- The dock link at the end of a reset: SETTLING begins at once if TPRES is asserted (R175, R201). -/
def resetPresence (s : State) : State :=
  if s.dlp.tpres then s.setDlp { s.dlp with link := .settling, settleTimer := some (startTimer s 250) } else s

/-- A start-up (R201): reset values, the load, the reset cause, RESET and, if the load made any replacement, STORE_DEFAULTED. -/
def startUp (cause : ResetCause) (s : State) : State :=
  let l := loadImage s.sst.image
  let s1 := placeSettings l.settings (bareState s)
  let s2 := s1.setSst { s1.sst with defaultsInUse := l.defaultsInUse, cause := cause }
  raiseBothIf l.replaced .storeDefaulted (raiseBoth .reset (resetPresence s2))

/-- A full reset with its start-up: a save in progress is cut off first (R198, R200). -/
def fullReset (cause : ResetCause) (s : State) : State := startUp cause (cutSave s)

/-- A supply dip holds the part in reset: all state is lost and a save is cut off (R198, R200). -/
def dipHold (s : State) : State :=
  let s1 := bareState (cutSave s)
  (s1.setSst { s1.sst with cause := .supplyDip }).setHeld true

end Sys2Proof.Machine
end

