-- ==== Sys2Proof/Machine/Dock.lean ====
section
/-! DEFINITION. The Dock Link Port: presence and link states, the tablet port reset, the receiver, and how a command of the dock
link is taken and answered (Section 8). -/

namespace Sys2Proof.Machine

/-! ### Link states and the display selector (R139, R158) -/

/-- The link enters UP: the tablet display request is set on and the desired source derived (R139, R161). -/
def enterUp (s : State) : State :=
  let s1 := s.setDlp { s.dlp with link := .up, staleTimer := some (startTimer s 1000) }
  deriveDisplay (s1.setDss { s1.dss with request := true })

/-- The stale timer expires in UP (R161). -/
def enterStale (s : State) : State := deriveDisplay (s.setDlp { s.dlp with link := .stale, staleTimer := none })

/-- The completion of a valid frame acts on the link state (R161). -/
def frameActs (s : State) : State :=
  match s.dlp.link with
  | .up => s.setDlp { s.dlp with staleTimer := some (startTimer s 1000) }
  | .waiting | .stale => enterUp s
  | _ => s

/-! ### The tablet port reset (R162) -/

/-- A tablet port reset: port loss, notices and mask, the display request, the user gain, the receiver, the reply, the stale
timer and the counter (R162). -/
def tabletPortReset (s : State) : State :=
  let s1 := setTabletNotices 0#16 allNotices (portLoss .tablet s)
  let s2 := deriveDisplay (s1.setDss { s1.dss with request := false })
  let s3 := setGain s2.sst.storedGain s2
  s3.setDlp
    { s3.dlp with
      assembly := none, frames := [], reply := none, staleTimer := none, portResets := bump s3.dlp.portResets }

/-! ### Presence (R159, R160) -/

/-- TPRES becomes asserted (R159, R160): ABSENT enters SETTLING; elsewhere a running drop timer stops, and in SETTLING the settle
timer starts afresh. The standby logic is told (R202, R204). -/
def assertPresence (s : State) : State :=
  let d := { s.dlp with tpres := true, dropTimer := none }
  let s1 :=
    match s.dlp.link with
    | .absent => s.setDlp { d with link := .settling, settleTimer := some (startTimer s 250) }
    | .settling => s.setDlp { d with settleTimer := some (startTimer s 250) }
    | _ => s.setDlp d
  takeStandbyCondition (wake s1)

/-- TPRES becomes de-asserted (R159, R160): outside ABSENT the drop timer starts, and in SETTLING the settle timer stops. -/
def releasePresence (s : State) : State :=
  let d := { s.dlp with tpres := false }
  match s.dlp.link with
  | .absent => s.setDlp d
  | .settling => s.setDlp { d with settleTimer := none, dropTimer := some (startTimer s 50) }
  | _ => s.setDlp { d with dropTimer := some (startTimer s 50) }

/-- The presence settle timer expires: WAITING, and the receiver hunts (R159). -/
def settlePresence (s : State) : State :=
  s.setDlp { s.dlp with link := .waiting, settleTimer := none, assembly := none }

/-- The drop timer expires: ABSENT with a tablet port reset, and the standby logic is told (R160, R202). -/
def dropPresence (s : State) : State :=
  takeStandbyCondition (tabletPortReset (s.setDlp { s.dlp with link := .absent, dropTimer := none, settleTimer := none }))

/-! ### The receiver (R165, R166) -/

/-- The bytes a frame occupies in the receive buffer, from SYNC to CRC (R166). -/
def frameSize (f : Frame) : Nat := f.payload.length + 4

/-- The bytes that the receive buffer holds (R166). -/
def bytesHeld (d : Dlp) : Nat := (d.frames.map frameSize).sum + (d.assembly.getD []).length

/-- The frame in assembly is discarded, and the receiver hunts (R165). -/
def discardAssembly (s : State) : State := s.setDlp { s.dlp with assembly := none }

/-- The frame in assembly is complete and valid: it goes into the receive buffer, and its completion acts on the link (R161,
R165). `bytes` are its bytes from SYNC to the last payload byte. -/
def acceptFrame (bytes : List Byte) (s : State) : State :=
  let f : Frame := { type := bytes.getD 2 0#8, payload := bytes.drop 3 }
  frameActs (s.setDlp { s.dlp with assembly := none, frames := s.dlp.frames ++ [f] })

/-- A byte into the frame in assembly, whose bytes so far are `bytes` (R165). -/
def assembleByte (bytes : List Byte) (b : Byte) (s : State) : State :=
  if bytes.length = 1 && b.toNat > Config.maxPayload then
    s.setDlp { s.dlp with assembly := none, lengthErrors := bump s.dlp.lengthErrors }
  else if 3 ≤ bytes.length && bytes.length = 3 + arg8 bytes 1 then
    if crc8 (bytes.drop 1) = b then acceptFrame bytes s
    else s.setDlp { s.dlp with assembly := none, crcErrors := bump s.dlp.crcErrors }
  else s.setDlp { s.dlp with assembly := some (bytes ++ [b]) }

/-- A byte that finds room: hunted through, or taken into the frame in assembly (R165). -/
def takeByte (b : Byte) (s : State) : State :=
  match s.dlp.assembly with
  | none => if b = 0xA5#8 then s.setDlp { s.dlp with assembly := some [b] } else s
  | some bytes => assembleByte bytes b s

/-- A byte that arrives with the receive buffer full is dropped and counted, and a frame in assembly is discarded (R166). -/
def dropByte (s : State) : State := s.setDlp { s.dlp with assembly := none, overruns := bump s.dlp.overruns }

/-- The time since the last byte is more than 5 ms: 6 ticks or more say so, 4 or fewer that it is not, and at 5 ticks, where the
counter cannot tell, `afterGap` does (R2, R165; log entry 7). -/
def gapped (afterGap : Bool) (quiet : Nat) : Bool := 6 ≤ quiet || (quiet == 5 && afterGap)

/-- A byte ends the quiet before it; a gap of more than 5 ms discards the frame in assembly (R165). -/
def endQuiet (afterGap : Bool) (s : State) : State :=
  if gapped afterGap s.dlp.quiet && s.dlp.assembly.isSome then
    s.setDlp { s.dlp with assembly := none, quiet := 0, gapErrors := bump s.dlp.gapErrors }
  else s.setDlp { s.dlp with quiet := 0 }

/-- A byte arrives on the receive line; in ABSENT and SETTLING it is discarded and not counted (R165, R166). A gap is looked at
before the room in the buffer (log entry 13). -/
def receiveByte (b : Byte) (afterGap : Bool) (s : State) : State :=
  if receiving s then
    let s1 := endQuiet afterGap s
    if bytesHeld s1.dlp ≥ Config.receiveBytes then dropByte s1 else takeByte b s1
  else s

/-- Bytes arrive one after another in the same millisecond. -/
def receiveBytes : List Byte → State → State
  | [], s => s
  | b :: bs, s => receiveBytes bs (receiveByte b false s)

/-! ### Commands and replies (R167) -/

/-- What an owning block answers to a command: the state it leaves, the status code and the reply payload. -/
structure Answer where
  state : State
  status : Status
  payload : List Byte

/-- An accepted command's answer. -/
def accept (s : State) (payload : List Byte) : Answer := { state := s, status := .ok, payload := payload }

/-- A refused command's answer, with the status code alone and the state unchanged (R3, R167). -/
def refuse (status : Status) (s : State) : Answer := { state := s, status := status, payload := [] }

/-- The reply frame of a command goes to the transmit line: TYPE with the top bit set, the status code, the payload (R167). -/
def dockReply (code : Byte) (status : Status) (payload : List Byte) (s : State) : State :=
  s.setDlp { s.dlp with reply := some (dockFrameBytes (code ||| 0x80#8) (byte (statusCode status) :: payload)) }

/-- A command of the dock link is taken: only the oldest frame of the receive buffer is, whose bytes then leave the buffer
(R166, R167). A command whose frame does not stand there is not taken, and nothing happens (log entry 4). -/
def takeFrame (code : Byte) (args : List Byte) (act : State → State) (s : State) : State :=
  if s.dlp.frames.head? = some { type := code, payload := args } then
    act (s.setDlp { s.dlp with frames := s.dlp.frames.tail })
  else s

/-- A dock link command with its fixed payload length: a wrong length is FORMAT, else the owning block answers (R167). -/
def dockCommand (code : Byte) (len : Nat) (args : List Byte) (act : State → Answer) (s : State) : State :=
  takeFrame code args
    (fun s1 =>
      if args.length = len then
        let a := act s1
        dockReply code a.status a.payload a.state
      else dockReply code .format [] s1)
    s

/-- A dock link command that the port itself refuses: UNKNOWN or DENIED (R167). -/
def dockRefusal (status : Status) (code : Byte) (args : List Byte) (s : State) : State :=
  takeFrame code args (dockReply code status []) s

end Sys2Proof.Machine
end

