-- ==== Sys2Proof/Machine/Vehicle.lean ====
section
/-! DEFINITION. The Vehicle Port: gateway frames, port loss, the two transmit slots, and how a gateway command is taken and
answered (9.1 to 9.3); and the frame that every event of the part has. -/

namespace Sys2Proof.Machine

/-! ### The transmit slots (R181 to R183) -/

/-- The report slot is loaded whenever it is free, the controller is ON_BUS and the gateway queue is not empty (R182). -/
def loadReportSlot (s : State) : State :=
  match s.vp.reportSlot, s.gq.reports with
  | none, r :: _ =>
    if s.vp.heldOff then s
    else (s.setGq { s.gq with headHeld := true }).setVp { s.vp with reportSlot := some (keyReportFrame s.vp r) }
  | _, _ => s

/-- The data of a PART_STATUS as the state stands (R183, R211). -/
def partStatusData (s : State) : List Byte :=
  [byte (motionCode s.mlu.motion), byte (modeCode s.mlu.mode), byte (lockoutCode s.mlu.lockout),
    byte (pictureCode s.dss.current), byte (boolCode s.kq.guard.wet + 2 * boolCode s.vp.online)] ++
    word (s.vp.notices &&& s.vp.mask).toNat ++ [byte (causeCode s.sst.cause)]

/-- The control slot is loaded whenever it is free and the controller is ON_BUS: with the next segment of the reply in
progress, or else, if status is due, with a PART_STATUS (R183). -/
def loadControlSlot (s : State) : State :=
  if s.vp.controlSlot.isSome || s.vp.heldOff then s
  else
    match s.vp.reply with
    | some r =>
      match r.rest with
      | seg :: rest =>
        s.setVp { s.vp with controlSlot := some (.segment (replyFrame s.vp seg)), reply := some { r with rest := rest } }
      | [] => s
    | none =>
      if s.vp.statusDue then
        s.setVp { s.vp with controlSlot := some (.partStatus (partStatusFrame s.vp (partStatusData s))), statusDue := false }
      else s

/-- Both slots are loaded where they can be. -/
def loadSlots (s : State) : State := loadControlSlot (loadReportSlot s)

/-- The output pins take their levels (R137, R168, R188). -/
def drivePins (s : State) : State := s.setPins (pinLevels s)

/-- The frame of every event: none is taken while a supply dip holds the part in reset; the transmit slots are loaded before it,
where a reset has left them to be, and after it, and the output pins take their levels (R168, R182, R183, R188, R200; log entry 10). -/
def event (act : State → State) (s : State) : State :=
  if s.held then s else drivePins (loadSlots (act (loadSlots s)))

/-! ### Port states (R177 to R179) -/

/-- The frame in the report slot is withdrawn: one already being transmitted stays and is finished (R182). -/
def withdrawSlot (onWire : Bool) (s : State) : State :=
  if onWire then s else s.setVp { s.vp with reportSlot := none }

/-- The port goes OFFLINE (R178). -/
def goOffline (onWire : Bool) (s : State) : State :=
  let s1 := withdrawSlot onWire (portLoss .gateway s)
  let s2 := s1.setCrm { s1.crm with shadow := none }
  let s3 := deriveDisplay (s2.setDss { s2.dss with hold := false })
  s3.setVp { s3.vp with online := false, silence := none, offlines := bump s3.vp.offlines }

/-- A gateway frame is received: the port becomes ONLINE, the silence timer starts afresh, and the frame is handed on; nothing is
received in HELD_OFF (R177). -/
def gatewayFrame (handOn : State → State) (s : State) : State :=
  if s.vp.heldOff then s
  else
    handOn
      (s.setVp
        { s.vp with
          online := true
          statusDue := s.vp.statusDue || !s.vp.online
          silence := some (startTimer s 1000) })

/-- A VEHICLE_STATE handed on: of the length 4 it goes to the lockout unit, of any other it is discarded and counted (R177, R211). -/
def handVehicleState (data : List Byte) (s : State) : State :=
  if data.length = 4 then takeVehicleState data s
  else s.setVp { s.vp with stateFormats := bump s.vp.stateFormats }

/-- The controller goes bus-off (R179): OFFLINE, HELD_OFF, both slots and the reply abandoned; a RESET_PART whose reply is
abandoned takes effect (R187). -/
def goBusOff (s : State) : State :=
  let s1 := if s.vp.online then goOffline false s else s
  let s2 :=
    (s1.setGq { s1.gq with headHeld := false }).setVp
      { s1.vp with
        heldOff := true, holdOff := some (startTimer s1 1000), reportSlot := none, controlSlot := none, reply := none
        busOffs := bump s1.vp.busOffs }
  match s.vp.reply with
  | some r => if r.resets then fullReset .commanded s2 else s2
  | none => s2

/-- The hold-off timer expires: the controller rejoins the bus, and status is due (R179, R183). -/
def rejoinBus (s : State) : State := s.setVp { s.vp with heldOff := false, holdOff := none, statusDue := true }

/-! ### Transmit completions (R130, R182, R183, R187) -/

/-- A KEY_REPORT's completion frees the slot, and the queue removes its head if it is the report it handed over (R130, R182). -/
def completeReport (s : State) : State :=
  let s1 := s.setVp { s.vp with reportSlot := none }
  if s.gq.headHeld then
    s1.setGq { (s.gq.removeHead (Config.gatewayCapacity / 2)) with headHeld := false }
  else s1

/-- The completion of the control slot's frame frees the slot; with a reply's last segment the reply ends, and a RESET_PART takes
effect (R183, R187). -/
def completeControl (f : ControlFrame) (s : State) : State :=
  let s1 := s.setVp { s.vp with controlSlot := none }
  match f, s.vp.reply with
  | .segment _, some r =>
    if r.rest.isEmpty then
      let s2 := s1.setVp { s1.vp with reply := none }
      if r.resets then fullReset .commanded s2 else s2
    else s1
  | _, _ => s1

/-! ### Gateway commands (R184) -/

/-- A GATEWAY_COMMAND is discarded with no reply, and counted (R184). -/
def dropCommand (s : State) : State := s.setVp { s.vp with commandDrops := bump s.vp.commandDrops }

/-- The reply in progress begins (R183, R184). -/
def startReply (resets : Bool) (code : Byte) (status : Status) (payload : List Byte) (s : State) : State :=
  s.setVp { s.vp with reply := some { rest := replySegments code status payload, resets := resets } }

/-- A GATEWAY_COMMAND handed on: its command is taken unless a reply is in progress (R184). -/
def handCommand (act : State → State) (s : State) : State := if s.vp.reply.isSome then dropCommand s else act s

/-- A frame on the bus is received, and its identifier alone says what it is: at base + 0 it is a VEHICLE_STATE with these data, at
base + 1 a GATEWAY_COMMAND whose command acts as said, and any other is ignored (R176, R177; log entry 4). -/
def receiveFrame (header : CanHeader) (data : List Byte) (act : State → State) (s : State) : State :=
  if takesFrame s.vp 0 header then gatewayFrame (handVehicleState data) s
  else if takesFrame s.vp 1 header then gatewayFrame (handCommand act) s
  else s

/-- A gateway command taken: an argument field of another length than `len` is FORMAT, else the owning block answers (R184). -/
def answerCommand (code : Byte) (len : Nat) (args : List Byte) (act : State → Answer) (s : State) : State :=
  if args.length = len then
    let a := act s
    startReply false code a.status a.payload a.state
  else startReply false code .format [] s

/-- A frame with a gateway command's code and arguments (R177, R184). -/
def vehicleCommand (header : CanHeader) (code : Byte) (len : Nat) (args : List Byte) (act : State → Answer) : State → State :=
  receiveFrame header (code :: args) (answerCommand code len args act)

/-- A frame with a command that the port itself refuses (R177, R184). -/
def vehicleRefusal (header : CanHeader) (status : Status) (code : Byte) (args : List Byte) : State → State :=
  receiveFrame header (code :: args) (startReply false code status [])

/-! ### Commands by port (R167, R184, R206) -/

/-- A command of the tablet: on the vehicle port it is UNKNOWN (R184). -/
def tabletCommand (port : Port) (code : Byte) (len : Nat) (args : List Byte) (act : State → Answer) : State → State :=
  match port with
  | .dockLink => dockCommand code len args act
  | .vehiclePort h => vehicleRefusal h .unknown code args

/-- A command that only the gateway may send: on the dock link it is DENIED, whatever its length (R58, R167). -/
def gatewayOnlyCommand (port : Port) (code : Byte) (len : Nat) (args : List Byte) (act : State → Answer) :
    State → State :=
  match port with
  | .dockLink => dockRefusal .denied code args
  | .vehiclePort h => vehicleCommand h code len args act

/-- A command of both ports (R206). -/
def sharedCommand (port : Port) (code : Byte) (len : Nat) (args : List Byte) (act : Master → State → Answer) :
    State → State :=
  match port with
  | .dockLink => dockCommand code len args (act .tablet)
  | .vehiclePort h => vehicleCommand h code len args (act .gateway)

/-- What a command on a port leaves: the outcome of its event. -/
def command (act : State → State) (s : State) : Host.Outcome State Fault Refusal := .next (event act s)

end Sys2Proof.Machine
end

