-- ==== Sys2Proof/Machine/Status.lean ====
section
/-! DEFINITION. The status and counter records that the masters read, field by field in the order of R209 (R51, R74, R95, R116,
R135, R156, R172, R173, R185). -/

namespace Sys2Proof.Machine

/-- A one-byte yes/no, on/off, set/clear or coded-as-two-values field. -/
def flag (b : Bool) : Byte := byte (boolCode b)

/-- A queue's occupancy, reserved count and flags (R135). -/
def queueFields (q : Queue) : List Byte := [byte q.reports.length, byte q.reserved, byte (queueFlagsCode q)]

/-- GET_STATUS GENERAL (R172, R209). -/
def statusGeneral (s : State) : List Byte :=
  [byte (linkCode s.dlp.link), flag s.sst.standby] ++ word (s.dlp.notices &&& s.dlp.mask).toNat ++ word s.dlp.mask.toNat ++
    [byte (causeCode s.sst.cause), flag s.sst.configLock, flag s.sst.save.isSome, flag s.sst.defaultsInUse,
      byte s.kfs.period, flag s.kq.guard.wet, byte (sitesInFault s), byte (motionCode s.mlu.motion),
      byte (modeCode s.mlu.mode), byte (lockoutCode s.mlu.lockout), byte (pictureCode s.dss.current),
      flag s.vp.online, flag s.vp.heldOff] ++
    queueFields s.tq ++ queueFields s.gq

/-- The edit state (R52, R74). -/
def editOpen (s : State) : Bool := s.crm.shadow.isSome

/-- GET_STATUS ROUTES (R74, R209). -/
def statusRoutes (s : State) : List Byte :=
  (s.crm.live.flatMap fun e => [byte (routeCode e.route), byte (classFlagsCode e)]) ++ [flag (editOpen s)]

/-- One held entry (R116, R209). -/
def entryFields (e : HeldEntry) : List Byte :=
  [byte (entrySourceCode e.source), byte e.code, byte e.cls] ++ word e.seq ++ [byte (ownersCode e.owners)] ++ word e.pressTime

/-- The number of entries, the last sequence number and the candidate's, 0 where there is none (R116, R209). -/
def routerFields (s : State) : List Byte :=
  [byte s.kr.table.length] ++ word s.kr.seq ++ word (s.kr.candidate.getD 0)

/-- GET_STATUS HELD (R116, R209). -/
def statusHeld (s : State) : List Byte :=
  routerFields s ++ word s.kr.delay ++ [byte s.kr.interval] ++ s.kr.table.flatMap entryFields

/-- The grace time remaining, 0 unless ENGAGING (R95). -/
def graceRemaining (s : State) : Nat :=
  match s.mlu.lockout, s.mlu.graceTimer with
  | .engaging, some t => t.remaining s.clock
  | _, _ => 0

/-- The sources byte: reverse, ignition, park brake and night in bits 0 to 3, set for AUX (R209). -/
def sourcesCode (i : Installation) : Nat :=
  sourceCode i.reverse + 2 * sourceCode i.ignition + 4 * sourceCode i.brake + 8 * sourceCode i.night

/-- GET_STATUS VEHICLE (R95, R209). -/
def statusVehicle (s : State) : List Byte :=
  [byte (motionCode s.mlu.motion), byte (modeCode s.mlu.mode), byte (lockoutCode s.mlu.lockout)] ++
    word (graceRemaining s) ++ [byte (coveredCount s)] ++ optWord s.mlu.signals.speed ++
    [byte (levelCode s.mlu.signals.reverse), byte (levelCode s.mlu.signals.ignition), byte (levelCode s.mlu.signals.brake),
      byte (levelCode s.mlu.signals.night), byte (sourcesCode s.axl.install), byte s.mlu.staleness] ++
    paramsBytes s.mlu.params

/-- The display fields before the calibration (R156, R209). -/
def displayHead (s : State) : List Byte :=
  [byte (pictureCode s.dss.current), byte (pictureCode s.dss.target), flag s.dss.settle.isSome, flag s.dss.request,
    flag s.dss.hold, byte (contactCode s.tpi.contact)] ++
    optWord (s.tpi.last.map Prod.fst) ++ optWord (s.tpi.last.map Prod.snd)

/-- The display fields after the calibration (R156, R209). -/
def displayTail (s : State) : List Byte :=
  word s.blr.light ++
    [byte s.blr.gain, byte s.blr.nightCap, byte (capInForce s), byte s.blr.target, byte s.blr.level]

/-- GET_STATUS DISPLAY (R156, R209). -/
def statusDisplay (s : State) : List Byte := displayHead s ++ calBytes s.tpi.cal ++ displayTail s

/-- Every counter of the part (R173, R209). -/
def counterRecord (s : State) : List Byte :=
  [s.kq.rejectedScans, s.kq.stuckExpiries, s.kq.faultEntries, s.kr.rollovers, s.kr.repeatDrops, s.tq.refusals, s.gq.refusals,
    s.tq.moveDrops, s.gq.moveDrops, s.tpi.faults, s.vp.stateFormats, s.vp.commandDrops, s.vp.busOffs, s.vp.offlines,
    s.dlp.crcErrors, s.dlp.lengthErrors, s.dlp.gapErrors, s.dlp.overruns, s.dlp.portResets].flatMap word

/-- The set of locked classes, bit n for class n (R74, R209). -/
def lockedClasses : Nat → List ClassEntry → Nat
  | _, [] => 0
  | n, e :: es => (if e.locked then 2 ^ n else 0) + lockedClasses (n + 1) es

/-- STATUS_REQUEST GENERAL (R185, R209). -/
def requestGeneral (s : State) : List Byte :=
  [flag s.vp.online, flag s.vp.heldOff, flag s.sst.standby] ++ word (s.vp.notices &&& s.vp.mask).toNat ++ word s.vp.mask.toNat ++
    [byte (causeCode s.sst.cause), flag s.sst.configLock, flag s.sst.save.isSome, flag s.sst.defaultsInUse,
      flag s.kq.guard.wet, byte (sitesInFault s), byte (motionCode s.mlu.motion), byte (modeCode s.mlu.mode),
      byte (lockoutCode s.mlu.lockout), byte (linkCode s.dlp.link), flag (editOpen s)] ++
    word (lockedClasses 0 s.crm.live) ++ routerFields s ++ queueFields s.tq ++ queueFields s.gq ++
    word s.vp.base ++ [byte (rateCode s.vp.rate)] ++ word s.axl.install.base ++ [byte (rateCode s.axl.install.rate)]

/-- The mode, function and debounced level of each line (R185, R209). -/
def lineFields : List LineSetup → List Line → List Byte
  | n :: ns, l :: ls => setupBytes n ++ [byte (levelCode l.debounced)] ++ lineFields ns ls
  | _, _ => []

/-- STATUS_REQUEST VEHICLE (R185, R209). -/
def requestVehicle (s : State) : List Byte := statusVehicle s ++ lineFields s.axl.install.lines s.axl.lines

/-- STATUS_REQUEST DISPLAY (R156, R209). -/
def requestDisplayRecord (s : State) : List Byte := displayHead s ++ displayTail s ++ word s.tpi.faults

/-- The record of a GET_STATUS part (R172, R208). -/
def statusPart (s : State) : Nat → Option (List Byte)
  | 0 => some (statusGeneral s)
  | 1 => some (statusRoutes s)
  | 2 => some (statusHeld s)
  | 3 => some (statusVehicle s)
  | 4 => some (statusDisplay s)
  | _ => none

/-- The record of a STATUS_REQUEST part (R185, R208). -/
def requestPart (s : State) : Nat → Option (List Byte)
  | 0 => some (requestGeneral s)
  | 1 => some (requestVehicle s)
  | 2 => some (requestDisplayRecord s)
  | 3 => some (counterRecord s)
  | _ => none

/-- The 14-byte snapshot record (R50, R207). -/
def snapshotBytes (n : Snapshot) : List Byte :=
  [byte n.site] ++ word n.time ++ [byte (siteStateCode n.state), flag n.rejected,
    byte (boolCode n.raw.isSome + 2 * boolCode n.corrected.isSome + 4 * boolCode n.base.isSome + 8 * boolCode n.delta.isSome)] ++
    word (n.raw.getD 0) ++ word (n.corrected.getD 0) ++ word (n.base.getD 0) ++ word16 (n.delta.getD 0)

end Sys2Proof.Machine
end

