-- ==== Sys2Proof/Machine/TabletCommands.lean ====
section
/-! DEFINITION. The meanings of the tablet's commands and of the commands of both ports (Sections 1 to 8 and 10). -/

namespace Sys2Proof.Machine

/-! ### Shared checks -/

/-- The checks of the configuration lock and of the motion state, in that order, before a configuration command (R83, R199). -/
def ifParked (act : State → Answer) (s : State) : Answer :=
  if s.sst.configLock then refuse .locked s
  else if s.mlu.motion != .parked then refuse .state s
  else act s

/-- The check of the configuration lock alone (R199). -/
def ifUnlocked (act : State → Answer) (s : State) : Answer :=
  if s.sst.configLock then refuse .locked s else act s

/-! ### Reading the part -/

/-- GET_REPORTS (R129, R171). -/
def getReports (args : List Byte) (s : State) : Answer :=
  let max := arg8 args 0
  if 1 ≤ max && max ≤ 8 then
    let (q, reports) := s.tq.take (Config.tabletCapacity / 2) max
    accept (s.setTq q) (byte reports.length :: reports.flatMap reportBytes)
  else refuse .range s

/-- GET_REPORTS (R171). -/
def execGetReports (port : Port) (args : List Byte) (s : State) : Host.Outcome State Fault Refusal :=
  command (tabletCommand port 0x01#8 1 args (getReports args)) s

/-- GET_STATUS (R172). -/
def getStatus (args : List Byte) (s : State) : Answer :=
  match statusPart s (arg8 args 0) with
  | some record => accept s record
  | none => refuse .range s

/-- GET_STATUS (R172). -/
def execGetStatus (port : Port) (args : List Byte) (s : State) : Host.Outcome State Fault Refusal :=
  command (tabletCommand port 0x02#8 1 args (getStatus args)) s

/-- GET_COUNTERS (R173). -/
def execGetCounters (port : Port) (args : List Byte) (s : State) : Host.Outcome State Fault Refusal :=
  command (tabletCommand port 0x03#8 0 args fun s1 => accept s1 (counterRecord s1)) s

/-! ### Notices -/

/-- A master's notices are cleared where the mask names them (R170, R186). -/
def clearFor (port : Master) (w : NoticeWord) (s : State) : State :=
  match port with
  | .tablet => setTabletNotices (s.dlp.notices &&& ~~~w) s.dlp.mask s
  | .gateway => setGatewayNotices (s.vp.notices &&& ~~~w) s.vp.mask s

/-- A master's notice mask is replaced (R170, R186). -/
def maskFor (port : Master) (w : NoticeWord) (s : State) : State :=
  match port with
  | .tablet => setTabletNotices s.dlp.notices w s
  | .gateway => setGatewayNotices s.vp.notices w s

/-- A master's notices taken with its mask (R170, R186). -/
def noticesShown (s : State) : Master → NoticeWord
  | .tablet => s.dlp.notices &&& s.dlp.mask
  | .gateway => s.vp.notices &&& s.vp.mask

/-- A notice command: a mask that names no existing notice is RANGE, else the answer carries the notices shown (R170, R186). -/
def noticeCommand (change : Master → NoticeWord → State → State) (args : List Byte) (port : Master) (s : State) : Answer :=
  if noticesExist (argNotices args 0) then
    let s1 := change port (argNotices args 0) s
    accept s1 (word (noticesShown s1 port).toNat)
  else refuse .range s

/-- CLEAR_NOTICES (R170, R186). -/
def execClearNotices (port : Port) (args : List Byte) (s : State) : Host.Outcome State Fault Refusal :=
  command (sharedCommand port 0x04#8 2 args (noticeCommand clearFor args)) s

/-- SET_NOTICE_MASK (R170, R186). -/
def execSetNoticeMask (port : Port) (args : List Byte) (s : State) : Host.Outcome State Fault Refusal :=
  command (sharedCommand port 0x05#8 2 args (noticeCommand maskFor args)) s

/-! ### RESET_PORT -/

/-- RESET_PORT: a tablet port reset, and the link becomes WAITING (R174). -/
def resetPort (s : State) : Answer :=
  let s1 := tabletPortReset s
  accept (s1.setDlp { s1.dlp with link := .waiting }) []

/-- RESET_PORT (R174). -/
def execResetPort (port : Port) (args : List Byte) (s : State) : Host.Outcome State Fault Refusal :=
  command (tabletCommand port 0x06#8 0 args resetPort) s

/-! ### SET_ROUTE -/

/-- The live entry of a class takes a route and a repeat; its other fields stay (R57). -/
def writeRoute (cls : Nat) (r : Route) (repeats : Bool) (s : State) : State :=
  changeLiveMap (s.crm.live.set cls { classEntry s.crm.live cls with route := r, repeats := repeats }) s

/-- A class entry keeps what is asked of class 15: route FOLLOW or NONE, and no repeat (R55). -/
def classLegal (cls : Nat) (r : Route) (repeats : Bool) : Bool := cls != 15 || (touchRoute r && !repeats)

/-- SET_ROUTE (R56, R57). -/
def setRoute (args : List Byte) (s : State) : Answer :=
  let cls := arg8 args 0
  match routeOf (arg8 args 1), yesNo (arg8 args 2) with
  | some r, some repeats =>
    if cls > 15 then refuse .range s
    else if editOpen s then refuse .busy s
    else if (classEntry s.crm.live cls).locked then refuse .locked s
    else if classLegal cls r repeats then accept (writeRoute cls r repeats s) []
    else refuse .illegal s
  | _, _ => refuse .range s

/-- SET_ROUTE (R56, R57). -/
def execSetRoute (port : Port) (args : List Byte) (s : State) : Host.Outcome State Fault Refusal :=
  command (tabletCommand port 0x10#8 3 args (ifUnlocked (setRoute args))) s

/-! ### SET_KEY and SET_TRIM -/

/-- The ranges of SET_KEY's number fields (R20). -/
def keyInRange (site cls thr hyst : Nat) : Bool := site ≤ 95 && cls ≤ 15 && 8 ≤ thr && thr ≤ 1023 && hyst + 4 ≤ thr

/-- The five fields of a site's record are written, and a change of enabled takes its effect (R21). -/
def writeKey (site : Nat) (enabled : Bool) (code cls thr hyst : Nat) (s : State) : State :=
  let old := siteRecord s site
  enabledChange site old.enabled enabled
    (setSiteRecord site { old with enabled := enabled, code := code, cls := cls, thr := thr, hyst := hyst } s)

/-- SET_KEY (R20, R21). -/
def setKey (args : List Byte) (s : State) : Answer :=
  match yesNo (arg8 args 1) with
  | none => refuse .range s
  | some enabled =>
    if !keyInRange (arg8 args 0) (arg8 args 3) (arg16 args 4) (arg16 args 6) then refuse .range s
    else if arg8 args 3 = 15 then refuse .illegal s
    else accept (writeKey (arg8 args 0) enabled (arg8 args 2) (arg8 args 3) (arg16 args 4) (arg16 args 6) s) []

/-- SET_KEY (R20, R21). -/
def execSetKey (port : Port) (args : List Byte) (s : State) : Host.Outcome State Fault Refusal :=
  command (tabletCommand port 0x11#8 8 args (ifParked (setKey args))) s

/-- The ranges of SET_TRIM's fields (R44). -/
def trimInRange (site : Nat) (offset : Int) (gain : Nat) : Bool :=
  site ≤ 95 && -512 ≤ offset && offset ≤ 511 && gain ≤ 2047

/-- A trim is written at once to an OFF site, and made pending for any other (R45). -/
def writeTrim (site : Nat) (t : Trim) (s : State) : State :=
  let q := siteQual s site
  if q.state = .off then
    setSiteQual site { q with trim := none }
      (setSiteRecord site { siteRecord s site with offset := t.offset, gain := t.gain } s)
  else setSiteQual site { q with trim := some t } s

/-- SET_TRIM; its RANGE refusal sets TRIM_RANGE for the tablet (R44, R45). -/
def setTrim (args : List Byte) (s : State) : Answer :=
  let t : Trim := { offset := argSigned args 1, gain := arg16 args 3 }
  if trimInRange (arg8 args 0) t.offset t.gain then accept (writeTrim (arg8 args 0) t s) []
  else refuse .range (raiseFor .tablet .trimRange s)

/-- SET_TRIM (R44, R45). -/
def execSetTrim (port : Port) (args : List Byte) (s : State) : Host.Outcome State Fault Refusal :=
  command (tabletCommand port 0x12#8 5 args (ifParked (setTrim args))) s

/-! ### SET_QUALIFY -/

/-- The eight settings that SET_QUALIFY carries (R46, R206). -/
def qualifyArgs (args : List Byte) : QualifySettings :=
  { period := arg8 args 0, np := arg8 args 1, nr := arg8 args 2, rate := arg8 args 3, common := arg8 args 4
    stuck := arg8 args 5, guardThr := arg16 args 6, wetMargin := arg16 args 8 }

/-- Every qualification setting is in its range (R25, R46). -/
def qualifyInRange (q : QualifySettings) : Bool :=
  periodLegal q.period && 1 ≤ q.np && q.np ≤ 7 && 1 ≤ q.nr && q.nr ≤ 7 && 4 ≤ q.rate && q.rate ≤ 7 && 2 ≤ q.common &&
    q.common ≤ 12 && stuckLegal q.stuck && guardLegal q.guardThr && q.wetMargin ≤ 1023

/-- SET_QUALIFY (R46, R47). -/
def setQualify (args : List Byte) (s : State) : Answer :=
  if qualifyInRange (qualifyArgs args) then accept (setQualifySettings (qualifyArgs args) s) [] else refuse .range s

/-- SET_QUALIFY (R46, R47). -/
def execSetQualify (port : Port) (args : List Byte) (s : State) : Host.Outcome State Fault Refusal :=
  command (tabletCommand port 0x13#8 10 args (ifParked (setQualify args))) s

/-! ### SET_REPEAT and SET_BRIGHTNESS -/

/-- SET_REPEAT; a running repeat timer keeps its expiry (R108, R109). -/
def setRepeat (args : List Byte) (s : State) : Answer :=
  let delay := arg16 args 0
  let interval := arg8 args 2
  if 250 ≤ delay && delay ≤ 1000 && 20 ≤ interval && interval ≤ 200 then
    accept (s.setKr { s.kr with delay := delay, interval := interval }) []
  else refuse .range s

/-- SET_REPEAT (R108, R109). -/
def execSetRepeat (port : Port) (args : List Byte) (s : State) : Host.Outcome State Fault Refusal :=
  command (tabletCommand port 0x14#8 3 args (ifUnlocked (setRepeat args))) s

/-- SET_BRIGHTNESS; a one-byte gain is always in 0..255 (R154). -/
def execSetBrightness (port : Port) (args : List Byte) (s : State) : Host.Outcome State Fault Refusal :=
  command (tabletCommand port 0x15#8 1 args fun s1 => accept (setGain (arg8 args 0) s1) []) s

/-! ### REQUEST_DISPLAY and SET_TOUCH_CAL -/

/-- The display fields that REQUEST_DISPLAY and DISPLAY_HOLD answer with, after the request or hold (R142, R143, R206). -/
def displayAnswer (first : Bool) (s : State) : List Byte :=
  [flag first, byte (pictureCode s.dss.current), byte (pictureCode s.dss.target), flag s.dss.settle.isSome]

/-- REQUEST_DISPLAY (R142). -/
def requestDisplay (args : List Byte) (s : State) : Answer :=
  match yesNo (arg8 args 0) with
  | none => refuse .range s
  | some on =>
    let s1 := deriveDisplay (s.setDss { s.dss with request := on })
    accept s1 (displayAnswer on s1)

/-- REQUEST_DISPLAY (R142). -/
def execRequestDisplay (port : Port) (args : List Byte) (s : State) : Host.Outcome State Fault Refusal :=
  command (tabletCommand port 0x16#8 1 args (requestDisplay args)) s

/-- One axis of a calibration is legal: fields in 0..4095 and 256 or more apart (R149). -/
def axisLegal (lo hi : Nat) : Bool := lo ≤ 4095 && hi ≤ 4095 && lo + 256 ≤ hi

/-- SET_TOUCH_CAL (R149). -/
def setTouchCal (args : List Byte) (s : State) : Answer :=
  let c : TouchCal := { xmin := arg16 args 0, xmax := arg16 args 2, ymin := arg16 args 4, ymax := arg16 args 6 }
  if axisLegal c.xmin c.xmax && axisLegal c.ymin c.ymax then accept (s.setTpi { s.tpi with cal := c }) []
  else refuse .range s

/-- SET_TOUCH_CAL (R149). -/
def execSetTouchCal (port : Port) (args : List Byte) (s : State) : Host.Outcome State Fault Refusal :=
  command (tabletCommand port 0x17#8 8 args (ifUnlocked (setTouchCal args))) s

/-! ### SET_INSTALL -/

/-- The four line setups that SET_INSTALL carries, if every mode and function is in range (R190). -/
def installLines (args : List Byte) : Option (List LineSetup) :=
  match setupOf (arg8 args 7) (arg8 args 8), setupOf (arg8 args 9) (arg8 args 10), setupOf (arg8 args 11) (arg8 args 12),
      setupOf (arg8 args 13) (arg8 args 14) with
  | some a, some b, some c, some d => some [a, b, c, d]
  | _, _, _, _ => none

/-- The installation that SET_INSTALL carries, if every field is in range (R190, R206). -/
def installArgs (args : List Byte) : Option Installation :=
  match rateOf (arg8 args 2), sourceOf (arg8 args 3), sourceOf (arg8 args 4), sourceOf (arg8 args 5), sourceOf (arg8 args 6),
      installLines args with
  | some rate, some reverse, some ignition, some brake, some night, some lines =>
    if arg16 args 0 ≤ 0x7FB then
      some
        { base := arg16 args 0, rate := rate, reverse := reverse, ignition := ignition, brake := brake, night := night
          lines := lines }
    else none
  | _, _, _, _, _, _ => none

/-- SET_INSTALL (R190). -/
def setInstall (args : List Byte) (s : State) : Answer :=
  match installArgs args with
  | none => refuse .range s
  | some i =>
    if i.lines.all setupLegal && functionsDistinct i.lines then accept (installNow i s) [] else refuse .illegal s

/-- SET_INSTALL (R190). -/
def execSetInstall (port : Port) (args : List Byte) (s : State) : Host.Outcome State Fault Refusal :=
  command (tabletCommand port 0x18#8 15 args (ifParked (setInstall args))) s

/-! ### SAVE_SETTINGS and LOAD_SETTINGS -/

/-- The check of the store state (R195, R196). -/
def ifIdle (act : State → Answer) (s : State) : Answer := if s.sst.save.isSome then refuse .busy s else act s

/-- A save is accepted (R196). -/
def acceptSave (s : State) : Answer := accept (startSave s) []

/-- SAVE_SETTINGS, checked by the port it arrives on (R196). -/
def saveSettings (port : Master) (s : State) : Answer :=
  match port with
  | .tablet => ifParked (ifIdle acceptSave) s
  | .gateway => ifIdle acceptSave s

/-- SAVE_SETTINGS (R196). -/
def execSaveSettings (port : Port) (args : List Byte) (s : State) : Host.Outcome State Fault Refusal :=
  command (sharedCommand port 0x19#8 0 args saveSettings) s

/-- LOAD_SETTINGS is accepted (R195). -/
def acceptLoad (s : State) : Answer := accept (applyLoad (loadImage s.sst.image) s) []

/-- LOAD_SETTINGS (R195). -/
def execLoadSettings (port : Port) (args : List Byte) (s : State) : Host.Outcome State Fault Refusal :=
  command (tabletCommand port 0x1A#8 0 args (ifParked (ifIdle acceptLoad))) s

/-! ### The snapshot -/

/-- SNAPSHOT_SELECT (R49). -/
def snapshotSelect (args : List Byte) (s : State) : Answer :=
  if arg8 args 0 ≤ 95 then accept (s.setKq { s.kq with snapSelect := arg8 args 0 }) [] else refuse .range s

/-- SNAPSHOT_SELECT (R49). -/
def execSnapshotSelect (port : Port) (args : List Byte) (s : State) : Host.Outcome State Fault Refusal :=
  command (tabletCommand port 0x1B#8 1 args (snapshotSelect args)) s

/-- GET_SNAPSHOT (R50). -/
def getSnapshot (s : State) : Answer :=
  match s.kq.snapshot with
  | none => refuse .state s
  | some n => accept s (snapshotBytes n)

/-- GET_SNAPSHOT (R50). -/
def execGetSnapshot (port : Port) (args : List Byte) (s : State) : Host.Outcome State Fault Refusal :=
  command (tabletCommand port 0x1C#8 0 args getSnapshot) s

end Sys2Proof.Machine
end

