-- ==== Sys2Proof/Machine/GatewayCommands.lean ====
section
/-! DEFINITION. The meanings of the commands that only the gateway may send (Sections 3, 4, 7, 9 and 10). On the dock link each
is DENIED. -/

namespace Sys2Proof.Machine

/-- A refused command's answer with a payload (R59, R85). -/
def refuseWith (status : Status) (payload : List Byte) (s : State) : Answer :=
  { state := s, status := status, payload := payload }

/-! ### ROUTE and the staged edit -/

/-- The entry that ROUTE carries, if every field is in range (R58). -/
def routeArgs (args : List Byte) : Option ClassEntry :=
  match routeOf (arg8 args 1), yesNo (arg8 args 2), yesNo (arg8 args 3), yesNo (arg8 args 4), yesNo (arg8 args 5) with
  | some r, some repeats, some exempt, some divert, some locked =>
    some { route := r, repeats := repeats, exempt := exempt, divert := divert, locked := locked }
  | _, _, _, _, _ => none

/-- The map that a ROUTE reaches: the shadow while an edit is open, else the live map (R59). -/
def routeMap (s : State) : List ClassEntry := s.crm.shadow.getD s.crm.live

/-- The reply payload of ROUTE: the class, the map, and the entry as it stands in that map (R59, R206). -/
def routeAnswer (cls : Nat) (s : State) : List Byte :=
  let e := classEntry (routeMap s) cls
  [byte cls, flag (editOpen s), byte (routeCode e.route), byte (classFlagsCode e)]

/-- One entry is written, to the shadow or to the live map (R59). -/
def writeEntry (cls : Nat) (e : ClassEntry) (s : State) : State :=
  match s.crm.shadow with
  | some shadow => s.setCrm { s.crm with shadow := some (shadow.set cls e) }
  | none => changeLiveMap (s.crm.live.set cls e) s

/-- ROUTE (R58, R59). -/
def routeCommand (args : List Byte) (s : State) : Answer :=
  let cls := arg8 args 0
  match routeArgs args with
  | none => refuse .range s
  | some e =>
    if cls > 15 then refuse .range s
    else if classLegal cls e.route e.repeats then
      let s1 := writeEntry cls e s
      accept s1 (routeAnswer cls s1)
    else refuseWith .illegal (routeAnswer cls s) s

/-- ROUTE (R58, R59). -/
def execRoute (port : Port) (args : List Byte) (s : State) : Host.Outcome State Fault Refusal :=
  command (gatewayOnlyCommand port 0x40#8 6 args (routeCommand args)) s

/-- EDIT_BEGIN: the live map is copied into the shadow, afresh if an edit was open (R62). -/
def editBegin (s : State) : Answer := accept (s.setCrm { s.crm with shadow := some s.crm.live }) []

/-- EDIT_BEGIN (R62). -/
def execEditBegin (port : Port) (args : List Byte) (s : State) : Host.Outcome State Fault Refusal :=
  command (gatewayOnlyCommand port 0x41#8 0 args editBegin) s

/-- EDIT_APPLY: the shadow replaces the live map, as one live map change, and is discarded (R62). -/
def editApply (s : State) : Answer :=
  match s.crm.shadow with
  | none => refuse .state s
  | some shadow => accept (changeLiveMap shadow (s.setCrm { s.crm with shadow := none })) []

/-- EDIT_APPLY (R62). -/
def execEditApply (port : Port) (args : List Byte) (s : State) : Host.Outcome State Fault Refusal :=
  command (gatewayOnlyCommand port 0x42#8 0 args editApply) s

/-- EDIT_ABANDON: the shadow is discarded (R63). -/
def editAbandon (s : State) : Answer := accept (s.setCrm { s.crm with shadow := none }) []

/-- EDIT_ABANDON (R63). -/
def execEditAbandon (port : Port) (args : List Byte) (s : State) : Host.Outcome State Fault Refusal :=
  command (gatewayOnlyCommand port 0x43#8 0 args editAbandon) s

/-! ### LOCKOUT_MODE and LOCKOUT_PARAMS -/

/-- The reply payload of LOCKOUT_MODE (R85). -/
def lockoutAnswer (s : State) : List Byte := [byte (modeCode s.mlu.mode), byte (lockoutCode s.mlu.lockout)]

/-- LOCKOUT_MODE (R85). -/
def lockoutMode (args : List Byte) (s : State) : Answer :=
  match modeOf (arg8 args 0) with
  | none => refuse .range s
  | some m =>
    if s.mlu.mode = .onLocked then refuseWith .locked (lockoutAnswer s) s
    else
      let s1 := takeConditionIfTaken (s.setMlu { s.mlu with mode := m })
      accept s1 (lockoutAnswer s1)

/-- LOCKOUT_MODE (R85). -/
def execLockoutMode (port : Port) (args : List Byte) (s : State) : Host.Outcome State Fault Refusal :=
  command (gatewayOnlyCommand port 0x44#8 1 args (lockoutMode args)) s

/-- The parameters that LOCKOUT_PARAMS carries, if every field is in range (R86). -/
def lockoutArgs (args : List Byte) : Option LockParams :=
  match yesNo (arg8 args 6) with
  | none => none
  | some required =>
    if 10 ≤ arg16 args 0 ∧ arg16 args 0 ≤ 1000 ∧ arg16 args 2 + 10 ≤ arg16 args 0 ∧ 500 ≤ arg16 args 4 ∧
        arg16 args 4 ≤ 5000 then
      some { son := arg16 args 0, soff := arg16 args 2, grace := arg16 args 4, brakeRequired := required }
    else none

/-- LOCKOUT_PARAMS (R86). -/
def lockoutParams (args : List Byte) (s : State) : Answer :=
  if s.mlu.mode = .onLocked then refuse .locked s
  else
    match lockoutArgs args with
    | none => refuse .range s
    | some p =>
      let s1 := deriveMotion (s.setMlu { s.mlu with params := p })
      accept s1 (paramsBytes s1.mlu.params)

/-- LOCKOUT_PARAMS (R86). -/
def execLockoutParams (port : Port) (args : List Byte) (s : State) : Host.Outcome State Fault Refusal :=
  command (gatewayOnlyCommand port 0x45#8 7 args (lockoutParams args)) s

/-! ### DISPLAY_HOLD and NIGHT_CAP -/

/-- DISPLAY_HOLD (R143). -/
def displayHold (args : List Byte) (s : State) : Answer :=
  match yesNo (arg8 args 0) with
  | none => refuse .range s
  | some on =>
    let s1 := deriveDisplay (s.setDss { s.dss with hold := on })
    accept s1 (displayAnswer on s1)

/-- DISPLAY_HOLD (R143). -/
def execDisplayHold (port : Port) (args : List Byte) (s : State) : Host.Outcome State Fault Refusal :=
  command (gatewayOnlyCommand port 0x46#8 1 args (displayHold args)) s

/-- NIGHT_CAP (R155). -/
def nightCap (args : List Byte) (s : State) : Answer :=
  if 8 ≤ arg8 args 0 then
    let s1 := applyCap (s.setBlr { s.blr with nightCap := arg8 args 0 })
    accept s1 [byte s1.blr.nightCap, byte (capInForce s1), byte s1.blr.level]
  else refuse .range s

/-- NIGHT_CAP (R155). -/
def execNightCap (port : Port) (args : List Byte) (s : State) : Host.Outcome State Fault Refusal :=
  command (gatewayOnlyCommand port 0x47#8 1 args (nightCap args)) s

/-! ### CONFIG_LOCK, STATUS_REQUEST and RESET_PART -/

/-- CONFIG_LOCK (R199). -/
def configLock (s : State) : Answer := accept (s.setSst { s.sst with configLock := true }) [flag true]

/-- CONFIG_LOCK (R199). -/
def execConfigLock (port : Port) (args : List Byte) (s : State) : Host.Outcome State Fault Refusal :=
  command (gatewayOnlyCommand port 0x48#8 0 args configLock) s

/-- STATUS_REQUEST (R185). -/
def statusRequest (args : List Byte) (s : State) : Answer :=
  match requestPart s (arg8 args 0) with
  | some record => accept s record
  | none => refuse .range s

/-- STATUS_REQUEST (R185). -/
def execStatusRequest (port : Port) (args : List Byte) (s : State) : Host.Outcome State Fault Refusal :=
  command (gatewayOnlyCommand port 0x49#8 1 args (statusRequest args)) s

/-- RESET_PART as the vehicle port takes it: its reply begins, and the full reset comes with the reply's end (R187). -/
def resetPart (args : List Byte) (s : State) : State :=
  if args.length = 0 then startReply true 0x4A#8 .ok [] s else startReply false 0x4A#8 .format [] s

/-- RESET_PART by the port it arrives on (R167, R187). -/
def resetPartOn (port : Port) (args : List Byte) : State → State :=
  match port with
  | .dockLink => dockRefusal .denied 0x4A#8 args
  | .vehiclePort h => receiveFrame h (0x4A#8 :: args) (resetPart args)

/-- RESET_PART (R187). -/
def execResetPart (port : Port) (args : List Byte) (s : State) : Host.Outcome State Fault Refusal :=
  command (resetPartOn port args) s

/-! ### The command that a data field spells (R184, R206) -/

/-- What each command of the gateway does with its arguments once its frame is taken, by its code. -/
def gatewayActs : List (Byte × (List Byte → State → State)) :=
  [(0x04#8, fun args => answerCommand 0x04#8 2 args (noticeCommand clearFor args .gateway)),
    (0x05#8, fun args => answerCommand 0x05#8 2 args (noticeCommand maskFor args .gateway)),
    (0x19#8, fun args => answerCommand 0x19#8 0 args (saveSettings .gateway)),
    (0x40#8, fun args => answerCommand 0x40#8 6 args (routeCommand args)),
    (0x41#8, fun args => answerCommand 0x41#8 0 args editBegin),
    (0x42#8, fun args => answerCommand 0x42#8 0 args editApply),
    (0x43#8, fun args => answerCommand 0x43#8 0 args editAbandon),
    (0x44#8, fun args => answerCommand 0x44#8 1 args (lockoutMode args)),
    (0x45#8, fun args => answerCommand 0x45#8 7 args (lockoutParams args)),
    (0x46#8, fun args => answerCommand 0x46#8 1 args (displayHold args)),
    (0x47#8, fun args => answerCommand 0x47#8 1 args (nightCap args)),
    (0x48#8, fun args => answerCommand 0x48#8 0 args configLock),
    (0x49#8, fun args => answerCommand 0x49#8 1 args (statusRequest args)),
    (0x4A#8, resetPart)]

/-- The command that a GATEWAY_COMMAND's data field spells: without a code it is dropped, and a code that names no gateway command is
UNKNOWN (R184). -/
def spelledCommand (data : List Byte) (s : State) : State :=
  match data with
  | [] => dropCommand s
  | code :: args =>
    match gatewayActs.lookup code with
    | some act => act args s
    | none => startReply false code .unknown [] s

end Sys2Proof.Machine
end

