-- ==== Sys2Proof/WellFormed.lean ====
section
/-! DEFINITION. Which terms of `Instr` stand for a command the part can meet. The machine is total: it also has a
meaning for the terms refused here. -/

namespace Sys2Proof

/-- A command code names no command of the port it arrives on: on the dock link neither a tablet command nor one
that only the gateway may send (R167), on the vehicle port no gateway command (R184). -/
def namesNoCommand (port : Master) (code : Byte) : Bool :=
  match port with
  | .tablet => !(Config.tabletCodes.contains code.toNat || Config.gatewayOnlyCodes.contains code.toNat)
  | .gateway => !(Config.sharedCodes.contains code.toNat || Config.gatewayOnlyCodes.contains code.toNat)

/-- The port's master. -/
def Port.master : Port → Master
  | .dockLink => .tablet
  | .vehiclePort _ => .gateway

/-- A frame with this header and data can stand on the bus: the identifier has its 11 or 29 bits (R177), and the data field at
most the 8 bytes of the classical format or the 64 of the flexible data-rate one (R210), none in a remote frame. -/
def CanHeader.carries (h : CanHeader) (bytes : Nat) : Bool :=
  h.id < (if h.extended then 2 ^ 29 else 2 ^ 11) && bytes ≤ (if h.flexible then 64 else 8) &&
    (!h.remote || (bytes == 0 && !h.flexible))

/-- An argument field fits the port's frame: 128 payload bytes on the dock link (R164), and on the vehicle port a data field
with the command code before it (R210). -/
def argsFit (port : Port) (args : List Byte) : Bool :=
  match port with
  | .dockLink => args.length ≤ Config.maxPayload
  | .vehiclePort h => h.carries (args.length + 1)

/-- The command is one the part can meet. -/
def Instr.wellFormed : Instr → Bool
  | .scanCompletion _ counts => counts.length == Config.siteCount
  | .vehicleState frame => frame.header.carries frame.data.length
  | .dockFrameReceived _ payload => payload.length ≤ Config.maxPayload
  | .unknownCommand port code args => namesNoCommand port.master code && argsFit port args
  | .getReports port args | .getStatus port args | .getCounters port args | .clearNotices port args
  | .setNoticeMask port args | .resetPort port args | .setRoute port args | .setKey port args
  | .setTrim port args | .setQualify port args | .setRepeat port args | .setBrightness port args
  | .requestDisplay port args | .setTouchCal port args | .setInstall port args | .saveSettings port args
  | .loadSettings port args | .snapshotSelect port args | .getSnapshot port args | .route port args
  | .editBegin port args | .editApply port args | .editAbandon port args | .lockoutMode port args
  | .lockoutParams port args | .displayHold port args | .nightCap port args | .configLock port args
  | .statusRequest port args | .resetPart port args => argsFit port args
  | .powerOn | .supplyDip | .supplyRestored | .scanStart | .stuckExpiry _ | .repeatExpiry | .touchReadStart _
  | .touchReadComplete _ | .graceExpiry | .stalenessMark | .gatewayCommandDropped | .silenceExpiry _ | .busOff
  | .holdOffExpiry | .keyReportTxComplete | .controlTxComplete | .statusMark | .auxLevelChange _ _
  | .auxDebounceExpiry _ | .settleExpiry | .lightPulse | .lightGateEnd | .rampMark | .tpresAsserted
  | .tpresDeasserted | .presenceSettleExpiry | .presenceDropExpiry | .staleExpiry | .standbyTimerExpiry
  | .pageWriteEnd _ | .timebaseTick | .dockLinkByteReceived _ _ => true

end Sys2Proof
end

