-- ==== Sys2Proof/Machine/Events.lean ====
section
/-! DEFINITION. The meanings of the events: supply, scans, timers, pins, frames received and transmit completions, and the
Timebase's tick. An expiry or a mark acts when its timer runs and its time has come (log entry 3). -/

namespace Sys2Proof.Machine

/-! ### When an event acts -/

/-- What an expiry does: it acts if its timer runs and its time has come, and nothing happens otherwise (R2; log entry 3). -/
def whenDue (timer : State → Option Timer) (act : State → State) (s : State) : State :=
  if dueTimer (timer s) s.clock then act s else s

/-- An event on an input pin: while a supply dip holds the part in reset only the pin's level is taken (R200; log entry 8). -/
def pinEvent (level : State → State) (act : State → State) (s : State) : Host.Outcome State Fault Refusal :=
  if s.held then .next (level s) else command act s

/-! ### The supply (R200, R201) -/

/-- The outcome of a start-up: the transmit slots are loaded and the pins driven at the end of the reset (R201; log entry 10). -/
def started (s : State) : Host.Outcome State Fault Refusal := .next (drivePins (loadSlots s))

/-- POWER_ON (R200, R201; log entry 8). -/
def execPowerOn (s : State) : Host.Outcome State Fault Refusal := started (fullReset .powerOn s)

/-- SUPPLY_DIP (R200): the part is held in reset. -/
def execSupplyDip (s : State) : Host.Outcome State Fault Refusal := .next (dipHold s)

/-- SUPPLY_RESTORED (R200, R201): a part held in reset starts up. -/
def execSupplyRestored (s : State) : Host.Outcome State Fault Refusal :=
  if s.held then started (startUp .supplyDip s) else .next s

/-! ### Scans (R11, R12) -/

/-- The scan period that a scan start puts in force (R13, R14). -/
def periodAtStart (s : State) : Nat := if s.kfs.standbyScan then Config.standbyPeriod else s.kq.settings.period

/-- The site indices of the enabled records, ascending (R11). -/
def enabledSites : Nat → List SiteRecord → List Nat
  | _, [] => []
  | i, r :: rs => if r.enabled then i :: enabledSites (i + 1) rs else enabledSites (i + 1) rs

/-- A scan start: the measured set, the period in force, the time of the next start (R11, R13, R14). -/
def startScan (s : State) : State :=
  s.setKfs
    { s.kfs with
      period := periodAtStart s
      nextStart := s.kfs.nextStart.next (periodAtStart s)
      measured := some (enabledSites 0 s.kfs.records) }

/-- SCAN_START (R11). -/
def execScanStart (s : State) : Host.Outcome State Fault Refusal :=
  command (whenDue (fun s1 => some s1.kfs.nextStart) startScan) s

/-- A completion ends the scan in progress, if there is one (R12). -/
def endScan (guard : Count) (counts : List Count) (s : State) : State :=
  match s.kfs.measured with
  | some m => completeScan m guard.val counts s
  | none => s

/-- SCAN_COMPLETION (R12, R26). -/
def execScanCompletion (guard : Count) (counts : List Count) (s : State) : Host.Outcome State Fault Refusal :=
  command (endScan guard counts) s

/-- The stuck expiry of a site, if its stuck test expires (R36). -/
def stuckEvent (site : Nat) (s : State) : State :=
  if stuckDue s.kq.settings.stuck s.clock (siteQual s site) then expireStuck site s else s

/-- STUCK_EXPIRY (R36; log entry 11). -/
def execStuckExpiry (site : SiteIndex) (s : State) : Host.Outcome State Fault Refusal :=
  command (stuckEvent site.val) s

/-- The repeat timer expires (R111). -/
def repeatEvent (s : State) : State :=
  match s.kr.repeatTimer, candidateEntry s with
  | some t, some e => if t.due s.clock then takeRepeatExpiry t e s else s
  | _, _ => s

/-- REPEAT_EXPIRY (R111). -/
def execRepeatExpiry (s : State) : Host.Outcome State Fault Refusal := command repeatEvent s

/-! ### The touch panel (R145, R146) -/

/-- The touch interrupt line has this level. -/
def interruptLevel (high : Bool) (s : State) : State := s.setTpi { s.tpi with interrupt := high }

/-- A read starts if it may, with the interrupt line at this level (R145, R148). -/
def beginRead (high : Bool) (s : State) : State :=
  let s1 := interruptLevel high s
  if readStarts s1 then startRead s1 else s1

/-- TOUCH_READ_START (R145). -/
def execTouchReadStart (interrupt : Bool) (s : State) : Host.Outcome State Fault Refusal :=
  pinEvent (interruptLevel interrupt) (beginRead interrupt) s

/-- A read's completion, if a read is in progress; that of an abandoned read is discarded (R146, R150). -/
def endRead (result : TouchRead) (s : State) : State := if s.tpi.reading then completeRead result s else s

/-- TOUCH_READ_COMPLETE (R146). -/
def execTouchReadComplete (result : TouchRead) (s : State) : Host.Outcome State Fault Refusal :=
  command (endRead result) s

/-! ### The lockout and the vehicle data (R79, R90) -/

/-- GRACE_EXPIRY (R90). -/
def execGraceExpiry (s : State) : Host.Outcome State Fault Refusal :=
  command (whenDue (fun s1 => if s1.mlu.lockout = .engaging then s1.mlu.graceTimer else none) endGrace) s

/-- A staleness mark, and the start of the interval to the next (R79). -/
def takeStalenessMark (s : State) : State :=
  staleStep (s.setMlu { s.mlu with stalenessMark := s.mlu.stalenessMark.next Config.stalenessPeriod })

/-- STALENESS_MARK (R79). -/
def execStalenessMark (s : State) : Host.Outcome State Fault Refusal :=
  command (whenDue (fun s1 => some s1.mlu.stalenessMark) takeStalenessMark) s

/-! ### The vehicle port (R177 to R183) -/

/-- VEHICLE_STATE: a frame on the bus, which is a GATEWAY_COMMAND where its identifier says so (R77, R177, R184; log entry 4). -/
def execVehicleState (frame : CanFrame) (s : State) : Host.Outcome State Fault Refusal :=
  command (receiveFrame frame.header frame.data (spelledCommand frame.data)) s

/-- GATEWAY_COMMAND_DROPPED (R184; log entry 15 for the row without an operand). -/
def execGatewayCommandDropped (s : State) : Host.Outcome State Fault Refusal := command (gatewayFrame dropCommand) s

/-- SILENCE_EXPIRY (R178). -/
def execSilenceExpiry (onWire : Bool) (s : State) : Host.Outcome State Fault Refusal :=
  command (whenDue (fun s1 => if s1.vp.online then s1.vp.silence else none) (goOffline onWire)) s

/-- A bus-off of a controller on the bus; one in HELD_OFF sends nothing and cannot go bus-off (R179). -/
def busOffEvent (s : State) : State := if s.vp.heldOff then s else goBusOff s

/-- BUS_OFF (R179). -/
def execBusOff (s : State) : Host.Outcome State Fault Refusal := command busOffEvent s

/-- HOLD_OFF_EXPIRY (R179). -/
def execHoldOffExpiry (s : State) : Host.Outcome State Fault Refusal :=
  command (whenDue (fun s1 => s1.vp.holdOff) rejoinBus) s

/-- The transmit completion of the report slot's frame, if there is one (R182). -/
def reportSent (s : State) : State := if s.vp.reportSlot.isSome then completeReport s else s

/-- KEY_REPORT_TX_COMPLETE (R182). -/
def execKeyReportTxComplete (s : State) : Host.Outcome State Fault Refusal := command reportSent s

/-- The transmit completion of the control slot's frame, if there is one (R183). -/
def controlSent (s : State) : State :=
  match s.vp.controlSlot with
  | some f => completeControl f s
  | none => s

/-- CONTROL_TX_COMPLETE (R183, R187). -/
def execControlTxComplete (s : State) : Host.Outcome State Fault Refusal := command controlSent s

/-- A status mark: the status due flag is set (R183). -/
def takeStatusMark (s : State) : State :=
  s.setVp { s.vp with statusDue := true, statusMark := s.vp.statusMark.next Config.statusPeriod }

/-- STATUS_MARK (R183). -/
def execStatusMark (s : State) : Host.Outcome State Fault Refusal :=
  command (whenDue (fun s1 => some s1.vp.statusMark) takeStatusMark) s

/-! ### The auxiliary lines (R189) -/

/-- The raw level of a line, while the part is held in reset. -/
def rawLevel (i : Nat) (high : Bool) (s : State) : State :=
  s.setAxl { s.axl with lines := s.axl.lines.modify i fun l => { l with raw := high } }

/-- AUX_LEVEL_CHANGE (R189). -/
def execAuxLevelChange (line : LineIndex) (high : Bool) (s : State) : Host.Outcome State Fault Refusal :=
  pinEvent (rawLevel line.val high) (changeLevel line.val high) s

/-- AUX_DEBOUNCE_EXPIRY (R189). -/
def execAuxDebounceExpiry (line : LineIndex) (s : State) : Host.Outcome State Fault Refusal :=
  command (debounceLine line.val) s

/-! ### The display and the backlight (R141, R151, R153) -/

/-- SETTLE_EXPIRY (R141). -/
def execSettleExpiry (s : State) : Host.Outcome State Fault Refusal :=
  command (whenDue (fun s1 => s1.dss.settle) settleDisplay) s

/-- A pulse of the ambient light sensor (R151). -/
def countPulse (s : State) : State := s.setBlr { s.blr with gateCount := min (s.blr.gateCount + 1) 4095 }

/-- LIGHT_PULSE (R151). -/
def execLightPulse (s : State) : Host.Outcome State Fault Refusal := command countPulse s

/-- A ramp mark: one step of the level toward the target (R153). -/
def takeRampMark (s : State) : State :=
  s.setBlr
    { s.blr with level := rampStep s.blr.level s.blr.target, rampMark := s.blr.rampMark.next Config.rampPeriod }

/-- The end of a gate: the count becomes N, the next gate starts from 0, and the target is computed anew (R151). -/
def closeGate (s : State) : State :=
  retarget
    (s.setBlr { s.blr with light := s.blr.gateCount, gateCount := 0, gateEnd := s.blr.gateEnd.next Config.gatePeriod })

/-- The end of a gate; a ramp mark that falls on it and has not been taken is taken first (R153). -/
def endGate (s : State) : State :=
  closeGate (if s.blr.rampMark.expiry = s.blr.gateEnd.expiry then takeRampMark s else s)

/-- LIGHT_GATE_END (R151). -/
def execLightGateEnd (s : State) : Host.Outcome State Fault Refusal :=
  command (whenDue (fun s1 => some s1.blr.gateEnd) endGate) s

/-- RAMP_MARK (R153). -/
def execRampMark (s : State) : Host.Outcome State Fault Refusal :=
  command (whenDue (fun s1 => some s1.blr.rampMark) takeRampMark) s

/-! ### The dock link (R159 to R165) -/

/-- The level of the presence line. -/
def presenceLevel (high : Bool) (s : State) : State := s.setDlp { s.dlp with tpres := high }

/-- TPRES becomes asserted, if it was not (R159). -/
def presenceRise (s : State) : State := if s.dlp.tpres then s else assertPresence s

/-- TPRES_ASSERTED (R159, R160). -/
def execTpresAsserted (s : State) : Host.Outcome State Fault Refusal := pinEvent (presenceLevel true) presenceRise s

/-- TPRES becomes de-asserted, if it was asserted (R160). -/
def presenceFall (s : State) : State := if s.dlp.tpres then releasePresence s else s

/-- TPRES_DEASSERTED (R159, R160). -/
def execTpresDeasserted (s : State) : Host.Outcome State Fault Refusal := pinEvent (presenceLevel false) presenceFall s

/-- PRESENCE_SETTLE_EXPIRY (R159). -/
def execPresenceSettleExpiry (s : State) : Host.Outcome State Fault Refusal :=
  command (whenDue (fun s1 => if s1.dlp.link = .settling then s1.dlp.settleTimer else none) settlePresence) s

/-- PRESENCE_DROP_EXPIRY (R160). -/
def execPresenceDropExpiry (s : State) : Host.Outcome State Fault Refusal :=
  command (whenDue (fun s1 => s1.dlp.dropTimer) dropPresence) s

/-- STALE_EXPIRY (R161). -/
def execStaleExpiry (s : State) : Host.Outcome State Fault Refusal :=
  command (whenDue (fun s1 => if s1.dlp.link = .up then s1.dlp.staleTimer else none) enterStale) s

/-- DOCK_FRAME_RECEIVED (R161, R165): the bytes of a frame arrive one after another (log entry 13). -/
def execDockFrameReceived (type : Byte) (payload : List Byte) (s : State) : Host.Outcome State Fault Refusal :=
  command (receiveBytes (dockFrameBytes type payload)) s

/-- DOCK_LINK_BYTE_RECEIVED (R165, R166). -/
def execDockLinkByteReceived (value : Byte) (afterGap : Bool) (s : State) : Host.Outcome State Fault Refusal :=
  command (receiveByte value afterGap) s

/-! ### Standby and the settings store (R197, R202) -/

/-- STANDBY_TIMER_EXPIRY (R202, R203). -/
def execStandbyTimerExpiry (s : State) : Host.Outcome State Fault Refusal :=
  command (whenDue (fun s1 => if s1.sst.standby then none else s1.sst.standbyTimer) enterStandby) s

/-- The page write in progress ends, if its time has come (R197). -/
def pageWriteEvent (verified : Bool) (s : State) : State :=
  match s.sst.save with
  | some w => if w.timer.due s.clock then endPageWrite w verified s else s
  | none => s

/-- PAGE_WRITE_END (R197). -/
def execPageWriteEnd (verified : Bool) (s : State) : Host.Outcome State Fault Refusal :=
  command (pageWriteEvent verified) s

/-! ### The Timebase (R2) -/

/-- One millisecond passes: the counter counts, and the quiet on the dock link's receive line is a millisecond longer (R2, R165). -/
def advance (s : State) : State :=
  (s.setClock ((s.clock + 1) % Config.stampModulus)).setDlp { s.dlp with quiet := min (s.dlp.quiet + 1) 6 }

/-- TIMEBASE_TICK (R2). -/
def execTimebaseTick (s : State) : Host.Outcome State Fault Refusal := command advance s

/-! ### A command code without a command (R167, R184) -/

/-- A command whose code names no command of its port is refused with UNKNOWN (R167, R184). -/
def unknownOn (port : Port) (code : Byte) (args : List Byte) (s : State) : State :=
  if namesNoCommand port.master code then
    match port with
    | .dockLink => dockRefusal .unknown code args s
    | .vehiclePort h => vehicleRefusal h .unknown code args s
  else s

/-- UNKNOWN_COMMAND (R167, R184). -/
def execUnknownCommand (port : Port) (code : Byte) (args : List Byte) (s : State) : Host.Outcome State Fault Refusal :=
  command (unknownOn port code args) s

end Sys2Proof.Machine
end

