-- ==== Sys2Proof/Machine/Dispatch.lean ====
section
/-! DEFINITION. Which meaning runs for each command. -/

namespace Sys2Proof.Machine

def exec (i : Instr) (s : State) : Host.Outcome State Fault Refusal :=
  match i with
  | .powerOn => Sys2Proof.Machine.execPowerOn s
  | .supplyDip => Sys2Proof.Machine.execSupplyDip s
  | .supplyRestored => Sys2Proof.Machine.execSupplyRestored s
  | .scanStart => Sys2Proof.Machine.execScanStart s
  | .scanCompletion guard counts => Sys2Proof.Machine.execScanCompletion guard counts s
  | .stuckExpiry site => Sys2Proof.Machine.execStuckExpiry site s
  | .repeatExpiry => Sys2Proof.Machine.execRepeatExpiry s
  | .touchReadStart interrupt => Sys2Proof.Machine.execTouchReadStart interrupt s
  | .touchReadComplete result => Sys2Proof.Machine.execTouchReadComplete result s
  | .graceExpiry => Sys2Proof.Machine.execGraceExpiry s
  | .stalenessMark => Sys2Proof.Machine.execStalenessMark s
  | .vehicleState frame => Sys2Proof.Machine.execVehicleState frame s
  | .gatewayCommandDropped => Sys2Proof.Machine.execGatewayCommandDropped s
  | .silenceExpiry onWire => Sys2Proof.Machine.execSilenceExpiry onWire s
  | .busOff => Sys2Proof.Machine.execBusOff s
  | .holdOffExpiry => Sys2Proof.Machine.execHoldOffExpiry s
  | .keyReportTxComplete => Sys2Proof.Machine.execKeyReportTxComplete s
  | .controlTxComplete => Sys2Proof.Machine.execControlTxComplete s
  | .statusMark => Sys2Proof.Machine.execStatusMark s
  | .auxLevelChange line high => Sys2Proof.Machine.execAuxLevelChange line high s
  | .auxDebounceExpiry line => Sys2Proof.Machine.execAuxDebounceExpiry line s
  | .settleExpiry => Sys2Proof.Machine.execSettleExpiry s
  | .lightPulse => Sys2Proof.Machine.execLightPulse s
  | .lightGateEnd => Sys2Proof.Machine.execLightGateEnd s
  | .rampMark => Sys2Proof.Machine.execRampMark s
  | .tpresAsserted => Sys2Proof.Machine.execTpresAsserted s
  | .tpresDeasserted => Sys2Proof.Machine.execTpresDeasserted s
  | .presenceSettleExpiry => Sys2Proof.Machine.execPresenceSettleExpiry s
  | .presenceDropExpiry => Sys2Proof.Machine.execPresenceDropExpiry s
  | .staleExpiry => Sys2Proof.Machine.execStaleExpiry s
  | .dockFrameReceived type payload => Sys2Proof.Machine.execDockFrameReceived type payload s
  | .standbyTimerExpiry => Sys2Proof.Machine.execStandbyTimerExpiry s
  | .pageWriteEnd verified => Sys2Proof.Machine.execPageWriteEnd verified s
  | .getReports port args => Sys2Proof.Machine.execGetReports port args s
  | .getStatus port args => Sys2Proof.Machine.execGetStatus port args s
  | .getCounters port args => Sys2Proof.Machine.execGetCounters port args s
  | .clearNotices port args => Sys2Proof.Machine.execClearNotices port args s
  | .setNoticeMask port args => Sys2Proof.Machine.execSetNoticeMask port args s
  | .resetPort port args => Sys2Proof.Machine.execResetPort port args s
  | .setRoute port args => Sys2Proof.Machine.execSetRoute port args s
  | .setKey port args => Sys2Proof.Machine.execSetKey port args s
  | .setTrim port args => Sys2Proof.Machine.execSetTrim port args s
  | .setQualify port args => Sys2Proof.Machine.execSetQualify port args s
  | .setRepeat port args => Sys2Proof.Machine.execSetRepeat port args s
  | .setBrightness port args => Sys2Proof.Machine.execSetBrightness port args s
  | .requestDisplay port args => Sys2Proof.Machine.execRequestDisplay port args s
  | .setTouchCal port args => Sys2Proof.Machine.execSetTouchCal port args s
  | .setInstall port args => Sys2Proof.Machine.execSetInstall port args s
  | .saveSettings port args => Sys2Proof.Machine.execSaveSettings port args s
  | .loadSettings port args => Sys2Proof.Machine.execLoadSettings port args s
  | .snapshotSelect port args => Sys2Proof.Machine.execSnapshotSelect port args s
  | .getSnapshot port args => Sys2Proof.Machine.execGetSnapshot port args s
  | .route port args => Sys2Proof.Machine.execRoute port args s
  | .editBegin port args => Sys2Proof.Machine.execEditBegin port args s
  | .editApply port args => Sys2Proof.Machine.execEditApply port args s
  | .editAbandon port args => Sys2Proof.Machine.execEditAbandon port args s
  | .lockoutMode port args => Sys2Proof.Machine.execLockoutMode port args s
  | .lockoutParams port args => Sys2Proof.Machine.execLockoutParams port args s
  | .displayHold port args => Sys2Proof.Machine.execDisplayHold port args s
  | .nightCap port args => Sys2Proof.Machine.execNightCap port args s
  | .configLock port args => Sys2Proof.Machine.execConfigLock port args s
  | .statusRequest port args => Sys2Proof.Machine.execStatusRequest port args s
  | .resetPart port args => Sys2Proof.Machine.execResetPart port args s
  | .timebaseTick => Sys2Proof.Machine.execTimebaseTick s
  | .dockLinkByteReceived value afterGap => Sys2Proof.Machine.execDockLinkByteReceived value afterGap s
  | .unknownCommand port code args => Sys2Proof.Machine.execUnknownCommand port code args s

end Sys2Proof.Machine
end

