-- ==== Sys2Proof/Safety.lean ====
section
/-! DEFINITION. What counts as a sound state: the laws that the spec states of the whole part, each as one predicate over the
state, in the terms that the statements use. -/

namespace Sys2Proof.Machine

/-! ### The queues and the Held-Key Table -/

/-- The number of held entries whose owner set contains the master (R121). -/
def ownedBy (m : Master) (s : State) : Nat := s.kr.table.countP fun e => e.owners.has m

/-- The law of R121 for one master's queue: occupancy and reserved count together fit its capacity, and the reserved count is
the number of entries that the master owns. -/
def reservedLaw (m : Master) (s : State) : Bool :=
  (queueOf s m).reports.length + (queueOf s m).reserved ≤ capacityOf m && (queueOf s m).reserved == ownedBy m s

/-- The table holds at most 12 entries (R96), and both queues keep the law of R121. -/
def queueLaw (s : State) : Bool :=
  s.kr.table.length ≤ Config.tableSize && reservedLaw .tablet s && reservedLaw .gateway s

/-- A master whose port holds nothing for it owns no entry and has an empty queue: the tablet while the link is neither UP nor STALE,
the gateway while the port is OFFLINE (R131, R168, R178). -/
def portLaw (s : State) : Bool :=
  (s.dlp.link == .up || s.dlp.link == .stale || (s.tq.reports.isEmpty && ownedBy .tablet s == 0)) &&
    (s.vp.online || (s.gq.reports.isEmpty && ownedBy .gateway s == 0))

/-- The sources of the entries differ from one another: at most one entry for each key site, and one for touch (R96). -/
def sourcesDistinct : List HeldEntry → Bool
  | [] => true
  | e :: es => es.all (fun f => f.source != e.source) && sourcesDistinct es

/-- The source of an entry is down: a key entry's site is PRESSED or RELEASING (R107), and touch has the contact DOWN. -/
def sourceDown (s : State) (e : HeldEntry) : Bool :=
  match e.source with
  | .site i => i < Config.siteCount && isHeld (siteQual s i).state
  | .touch => s.tpi.contact == .down

/-- A site is OFF exactly when its record's enabled field is no (R23). -/
def offLaw : List SiteRecord → List SiteQual → Bool
  | r :: rs, q :: qs => ((q.state == .off) == !r.enabled) && offLaw rs qs
  | _, _ => true

/-- The table's law: distinct sources, all of them down, over 96 sites of which those disabled are OFF (R5, R23, R96, R107). -/
def tableLaw (s : State) : Bool :=
  s.kfs.records.length == Config.siteCount && s.kq.quals.length == Config.siteCount && offLaw s.kfs.records s.kq.quals &&
    sourcesDistinct s.kr.table && s.kr.table.all (sourceDown s)

/-! ### The lockout -/

/-- Both maps have their 16 entries (R52). -/
def mapsWhole (s : State) : Bool :=
  s.crm.live.length == Config.classCount && (s.crm.shadow.getD s.crm.live).length == Config.classCount

/-- The lockout follows its condition from the first scan completion on (R87, R88, R91, R93); ENGAGING has its timer and a
covered entry (R88, R89), and ENGAGED has no covered entry (R106). -/
def lockoutLaw (s : State) : Bool :=
  mapsWhole s && (lockoutInEffect s == (s.mlu.conditionTaken && lockoutCondition s)) &&
    (s.mlu.graceTimer.isSome == (s.mlu.lockout == .engaging)) &&
    (match s.mlu.lockout with
      | .opened => true
      | .engaging => coveredCount s != 0
      | .engaged => coveredCount s == 0)

/-! ### The display, the backlight and the pins -/

/-- The target is the desired source, and in STEADY the current source equals it (R137 to R141). -/
def displayLaw (s : State) : Bool :=
  s.dss.target == desiredPicture s && (s.dss.settle.isSome || s.dss.current == s.dss.target)

/-- Neither the backlight level nor its target exceeds the cap in force (R152, R153). -/
def capLaw (s : State) : Bool := s.blr.level ≤ capInForce s && s.blr.target ≤ capInForce s

/-- Outside the hold of a supply dip the output pins show what the state asks of them (R137, R168, R188). -/
def pinLaw (s : State) : Bool := s.held || s.pins == pinLevels s

/-! ### The settings -/

/-- The image's memory keeps its canonical form, and a save is at one of its 17 writes (R192, R197). -/
def imageLaw (s : State) : Bool :=
  Memory.wf s.sst.image &&
    (match s.sst.save with
      | none => true
      | some w => 1 ≤ w.write && w.write ≤ 17)

/-- A class 15 entry routes FOLLOW or NONE and does not repeat (R55). -/
def touchEntryLegal (map : List ClassEntry) : Bool :=
  touchRoute (classEntry map 15).route && !(classEntry map 15).repeats

/-- Class 15 keeps its law in the live map and in the shadow map (R55). -/
def touchClassLaw (s : State) : Bool := touchEntryLegal s.crm.live && (s.crm.shadow.all touchEntryLegal)

/-- The fields of a site record are in their ranges (R8). -/
def recordInRange (r : SiteRecord) : Bool :=
  r.code ≤ 255 && r.cls ≤ 14 && 8 ≤ r.thr && r.thr ≤ 1023 && r.hyst + 4 ≤ r.thr && -512 ≤ r.offset && r.offset ≤ 511 &&
    r.gain ≤ 2047

/-- A pending trim is in the ranges of R44. -/
def pendingInRange (q : SiteQual) : Bool :=
  match q.trim with
  | none => true
  | some t => -512 ≤ t.offset && t.offset ≤ 511 && t.gain ≤ 2047

/-- The site records and the qualification settings are in their ranges (R8, R25). -/
def siteSettingsLaw (s : State) : Bool :=
  s.kfs.records.all recordInRange && s.kq.quals.all pendingInRange && qualifyInRange s.kq.settings

/-! ### Numbers and buffers -/

/-- The receive buffer holds at most 256 bytes (R166). -/
def bufferLaw (s : State) : Bool := bytesHeld s.dlp ≤ Config.receiveBytes

/-- Every counter of the part (R173). -/
def counters (s : State) : List Nat :=
  [s.kq.rejectedScans, s.kq.stuckExpiries, s.kq.faultEntries, s.kr.rollovers, s.kr.repeatDrops, s.tq.refusals, s.gq.refusals,
    s.tq.moveDrops, s.gq.moveDrops, s.tpi.faults, s.vp.stateFormats, s.vp.commandDrops, s.vp.busOffs, s.vp.offlines,
    s.dlp.crcErrors, s.dlp.lengthErrors, s.dlp.gapErrors, s.dlp.overruns, s.dlp.portResets]

/-- The millisecond counter and every counter stay in 0..65,535 (R2, R4). -/
def counterLaw (s : State) : Bool := s.clock < Config.stampModulus && (counters s).all (fun c => c ≤ Config.counterMax)

/-- The last number issued is 0..65,535, and the entries carry numbers 1..65,535 that differ from one another (R96, R97). -/
def seqLaw (s : State) : Bool :=
  s.kr.seq ≤ 65535 && s.kr.table.all (fun e => 1 ≤ e.seq && e.seq ≤ 65535) && (s.kr.table.map HeldEntry.seq).Nodup

/-- A save past its first write has no valid header in the image until it ends (R197, R198). -/
def saveLaw (s : State) : Bool :=
  imageLaw s &&
    (match s.sst.save with
      | none => true
      | some w => w.write == 1 || !imageValid s.sst.image)

/-- Outside the hold of a dip, with the controller ON_BUS, a free report slot means an empty gateway queue, and a free control
slot means no segment and no PART_STATUS to send (R182, R183). -/
def slotLaw (s : State) : Bool :=
  s.held || s.vp.heldOff ||
    ((s.vp.reportSlot.isSome || s.gq.reports.isEmpty) &&
      (s.vp.controlSlot.isSome ||
        (match s.vp.reply with
          | some r => r.rest.isEmpty
          | none => !s.vp.statusDue)))

/-! ### What a saved image holds -/

/-- A line's setups are four, each legal, with no function held twice (R190). -/
def linesLegal (ls : List LineSetup) : Bool := ls.length == 4 && ls.all setupLegal && functionsDistinct ls

/-- The lockout parameters are in their ranges (R84). -/
def paramsInRange (p : LockParams) : Bool :=
  10 ≤ p.son && p.son ≤ 1000 && p.soff + 10 ≤ p.son && 500 ≤ p.grace && p.grace ≤ 5000

/-- A complete set of stored settings in which every field is in range and every combination is legal (R193). -/
def settingsLegal (c : Settings) : Bool :=
  c.sites.length == Config.siteCount && c.sites.all recordInRange && qualifyInRange c.qualify &&
    c.classes.length == Config.classCount && c.classes.all (fun e => !e.locked) && touchEntryLegal c.classes &&
    (250 ≤ c.delay && c.delay ≤ 1000 && 20 ≤ c.interval && c.interval ≤ 200) && c.mode != .onLocked &&
    paramsInRange c.params && axisLegal c.cal.xmin c.cal.xmax && axisLegal c.cal.ymin c.cal.ymax && c.gain ≤ 255 &&
    (8 ≤ c.nightCap && c.nightCap ≤ 255) && c.install.base ≤ 0x7FB && linesLegal c.install.lines

/-- The working settings but for the records, the classes and the qualification settings are in their ranges (R84, R108, R149, R154,
R155, R190), and so is the base in force (R176). -/
def otherSettingsLaw (s : State) : Bool :=
  (250 ≤ s.kr.delay && s.kr.delay ≤ 1000 && 20 ≤ s.kr.interval && s.kr.interval ≤ 200) && paramsInRange s.mlu.params &&
    axisLegal s.tpi.cal.xmin s.tpi.cal.xmax && axisLegal s.tpi.cal.ymin s.tpi.cal.ymax && s.blr.gain ≤ 255 &&
    s.sst.storedGain ≤ 255 && (8 ≤ s.blr.nightCap && s.blr.nightCap ≤ 255) && s.axl.install.base ≤ 0x7FB &&
    linesLegal s.axl.install.lines && s.vp.base ≤ 0x7FB

/-- The first `n` page writes of a save of the copy, all verified (R197). -/
def writesDone (c : Settings) : Nat → Memory → Memory
  | 0, m => m
  | n + 1, m => writeWholePage (writePage (n + 1)) (writeFields c (n + 1)) (writesDone c n m)

/-! ### What a step leaves as it was -/

/-- The parts of the state that a frame speaks of: the blocks, with the ports cut into what their events change together. -/
inductive Part where
  | kfs | kq | crm | mlu | kr | tq | gq | dss | tpi | blr
  /-- The link state, presence and timers, the mask and the port-reset counter of the dock link. -/
  | link
  /-- The frame in assembly, the quiet since the last byte, and the receiver's counters. -/
  | receiver
  /-- The valid frames not yet taken, and the reply on the transmit line. -/
  | dockWire
  /-- Both masters' notices. -/
  | notices
  /-- Port state, controller condition and their timers of the vehicle port. -/
  | port
  /-- The mask, the counters, base and rate in force of the vehicle port. -/
  | vehicle
  /-- The vehicle port's status schedule. -/
  | marks
  /-- The transmit slots, the reply in progress, the status due flag, and the report slot's hold. -/
  | slots
  | axl | sst | clock | held | pins | free
  deriving DecidableEq, Repr

/-- The part is the same in both states. -/
def sameAt (s t : State) : Part → Prop
  | .kfs => t.kfs = s.kfs
  | .kq => t.kq = s.kq
  | .crm => t.crm = s.crm
  | .mlu => t.mlu = s.mlu
  | .kr => t.kr = s.kr
  | .tq => t.tq = s.tq
  | .gq => { t.gq with headHeld := s.gq.headHeld } = s.gq
  | .dss => t.dss = s.dss
  | .tpi => t.tpi = s.tpi
  | .blr => t.blr = s.blr
  | .link =>
    t.dlp.link = s.dlp.link ∧ t.dlp.tpres = s.dlp.tpres ∧ t.dlp.settleTimer = s.dlp.settleTimer ∧
      t.dlp.dropTimer = s.dlp.dropTimer ∧ t.dlp.staleTimer = s.dlp.staleTimer ∧ t.dlp.mask = s.dlp.mask ∧
      t.dlp.portResets = s.dlp.portResets
  | .receiver =>
    t.dlp.assembly = s.dlp.assembly ∧ t.dlp.quiet = s.dlp.quiet ∧ t.dlp.crcErrors = s.dlp.crcErrors ∧ t.dlp.lengthErrors = s.dlp.lengthErrors ∧
      t.dlp.gapErrors = s.dlp.gapErrors ∧ t.dlp.overruns = s.dlp.overruns
  | .dockWire => t.dlp.frames = s.dlp.frames ∧ t.dlp.reply = s.dlp.reply
  | .notices => t.dlp.notices = s.dlp.notices ∧ t.vp.notices = s.vp.notices
  | .port =>
    t.vp.online = s.vp.online ∧ t.vp.heldOff = s.vp.heldOff ∧ t.vp.silence = s.vp.silence ∧ t.vp.holdOff = s.vp.holdOff
  | .vehicle =>
    t.vp.mask = s.vp.mask ∧ t.vp.stateFormats = s.vp.stateFormats ∧
      t.vp.commandDrops = s.vp.commandDrops ∧ t.vp.busOffs = s.vp.busOffs ∧ t.vp.offlines = s.vp.offlines ∧
      t.vp.base = s.vp.base ∧ t.vp.rate = s.vp.rate
  | .marks => t.vp.statusMark = s.vp.statusMark
  | .slots =>
    t.vp.reportSlot = s.vp.reportSlot ∧ t.vp.controlSlot = s.vp.controlSlot ∧ t.vp.reply = s.vp.reply ∧
      t.vp.statusDue = s.vp.statusDue ∧ t.gq.headHeld = s.gq.headHeld
  | .axl => t.axl = s.axl
  | .sst => t.sst = s.sst
  | .clock => t.clock = s.clock
  | .held => t.held = s.held
  | .pins => t.pins = s.pins
  | .free => t.free = s.free

/-- Every part but those listed is the same, and so is the queue of waiting commands. -/
def unchangedBut (changed : List Part) (s t : State) : Prop :=
  t.pending = s.pending ∧ ∀ p : Part, p ∉ changed → sameAt s t p

/-- An event has set the notice for both masters (R169, R186). -/
def noticed (n : Notice) (s t : State) : Prop :=
  t.dlp.notices = s.dlp.notices ||| noticeWord n ∧ t.vp.notices = s.vp.notices ||| noticeWord n

/-! ### Commands asked and answered -/

/-- The part runs, and the tablet's command stands oldest in the receive buffer, with these frames behind it (R166, R167). -/
def dockAsks (code : Byte) (args : List Byte) (rest : List Frame) (s : State) : Prop :=
  s.held = false ∧ s.dlp.frames = { type := code, payload := args } :: rest

/-- The command's frame has left the buffer, and its reply is on the transmit line: SYNC, LENGTH, TYPE with the top bit set, the
status code and payload, CRC-8 (R164, R166, R167). -/
def dockAnswers (code : Byte) (rest : List Frame) (status : Status) (payload : List Byte) (t : State) : Prop :=
  t.dlp.frames = rest ∧ t.dlp.reply = some (dockFrameBytes (code ||| 0x80#8) (byte (statusCode status) :: payload))

/-- The reply segments that the gateway has still to be sent: the one in the control slot and those not yet loaded (R183). -/
def segmentsDue (s : State) : List (List Byte) :=
  (match s.vp.controlSlot with
    | some (.segment f) => [f.data]
    | _ => []) ++
    (match s.vp.reply with
      | some r => r.rest
      | none => [])

/-- A frame with this header is the gateway frame `offset` from the base in force: a data frame whose identifier is 11 bits long (R176,
R177). -/
def addressed (offset : Nat) (h : CanHeader) (s : State) : Prop :=
  h.extended = false ∧ h.remote = false ∧ h.id = s.vp.base + offset

/-- The part runs on the bus with no reply in progress, so that a command in a GATEWAY_COMMAND frame with this header is taken (R177,
R184). -/
def gatewayAsks (h : CanHeader) (s : State) : Prop :=
  s.held = false ∧ s.vp.heldOff = false ∧ s.vp.reply = none ∧ segmentsDue s = [] ∧ addressed 1 h s

/-- A gateway frame has been heard: the port is ONLINE, and the silence timer runs from now (R177). -/
def gatewayHeard (s t : State) : Prop :=
  t.vp.online = true ∧ t.vp.silence = some { start := s.clock, span := 1000 } ∧ t.vp.heldOff = s.vp.heldOff ∧
    t.vp.holdOff = s.vp.holdOff

/-- The frame that carries these data from the part, `offset` from the base and at the rate in force (R176, R210). -/
def sent (s : State) (offset : Nat) (format : CanFormat) (data : List Byte) : BusFrame :=
  { id := s.vp.base + offset, format := format, rate := s.vp.rate, data := data }

/-- The reply to the gateway's command is in progress, with all its segments still due, and a segment in the control slot is a
COMMAND_REPLY frame (R176, R183, R184, R210). -/
def gatewayAnswers (code : Byte) (status : Status) (payload : List Byte) (t : State) : Prop :=
  t.vp.reply.isSome ∧ segmentsDue t = replySegments code status payload ∧
    (∀ f, t.vp.controlSlot = some (.segment f) → f = sent t 2 .flexible f.data)

/-! ### What the blocks do to one another -/

/-- The lockout condition, now true or false as `cond` says, has been taken anew: the lockout engages, opens, or stays (R88, R91; not
before the first scan completion after a full reset, R93). -/
def lockoutFollows (cond : Bool) (s t : State) : Prop :=
  if s.mlu.conditionTaken && cond && s.mlu.lockout == .opened then
    noticed .lockout s t ∧
      (if coveredCount s = 0 then t.mlu.lockout = .engaged ∧ t.mlu.graceTimer = none
        else t.mlu.lockout = .engaging ∧ t.mlu.graceTimer = some { start := s.clock, span := t.mlu.params.grace })
  else if s.mlu.conditionTaken && !cond && s.mlu.lockout != .opened then
    noticed .lockout s t ∧ t.mlu.lockout = .opened ∧ t.mlu.graceTimer = none
  else sameAt s t .notices ∧ t.mlu.lockout = s.mlu.lockout ∧ t.mlu.graceTimer = s.mlu.graceTimer

/-- The display selector has followed its inputs: the target is the desired source, and a target that changes starts the settle of 40 ms
afresh (R138 to R140). -/
def displayFollows (s t : State) : Prop :=
  t.dss.target = desiredPicture t ∧ t.dss.current = s.dss.current ∧
    t.dss.settle = if t.dss.target = s.dss.target then s.dss.settle else some { start := s.clock, span := 40 }

/-- The repeat candidate has been chosen again: the newest entry of a repeating class with an owner; a new candidate starts the timer
with the delay, the same one leaves it running, and with none it stops (R110). -/
def candidateFollows (s t : State) : Prop :=
  match t.kr.table.reverse.find? (fun e => (classEntry t.crm.live e.cls).repeats && (e.owners.tablet || e.owners.gateway)) with
  | none => t.kr.candidate = none ∧ t.kr.repeatTimer = none
  | some e =>
    t.kr.candidate = some e.seq ∧
      t.kr.repeatTimer =
        if s.kr.candidate = some e.seq then s.kr.repeatTimer else some { start := s.clock, span := s.kr.delay }

/-- The router's settings and counters are the same. -/
def routerKept (s t : State) : Prop :=
  t.kr.delay = s.kr.delay ∧ t.kr.interval = s.kr.interval ∧ t.kr.rollovers = s.kr.rollovers ∧ t.kr.repeatDrops = s.kr.repeatDrops

/-- A queue of this capacity admits a press-type report (R122). -/
def admitsPress (capacity : Nat) (q : Queue) : Bool := !q.draining && q.reports.length + q.reserved + 2 ≤ capacity

/-- A queue after a press-type report was offered to it, if it was (R122, R126, R127). -/
def afterPress (offered : Bool) (capacity : Nat) (r : Report) (q : Queue) : Queue :=
  if offered then
    if admitsPress capacity q then
      { q with reports := q.reports ++ [{ r with gap := q.gap }], gap := false, reserved := q.reserved + 1 }
    else { q with draining := true, refusals := min (q.refusals + 1) 65535 }
  else q

/-- A queue after a release-type report was offered to it, if it was (R124, R127). -/
def afterRelease (offered : Bool) (r : Report) (q : Queue) : Queue :=
  if offered then { q with reports := q.reports ++ [{ r with gap := q.gap }], gap := false, reserved := q.reserved - 1 } else q

/-- The notice's word where the condition holds, and no notice elsewhere. -/
def noticeIf (b : Bool) (n : Notice) : NoticeWord := if b then noticeWord n else 0#16

/-- The router has taken a press-type event: an entry, owned by the masters of the offer set whose queues admitted its report, or a
rollover (R99 to R101, R122, R126). -/
def pressTaken (p : Press) (s t : State) : Prop :=
  let offer := offerSet s p.cls
  let seq := nextSeq s
  let r : Report := { kind := p.kind, seq := seq, time := p.time, gap := false, body := p.body, reason := none }
  if s.kr.table.length < 12 then
    t.kr.table = s.kr.table ++
        [{ source := p.source, code := p.code, cls := p.cls, seq := seq
           owners :=
            { tablet := offer.tablet && admitsPress 32 s.tq, gateway := offer.gateway && admitsPress 16 s.gq }
           pressTime := p.time }] ∧
      t.kr.seq = seq ∧ routerKept s t ∧ candidateFollows s t ∧ t.tq = afterPress offer.tablet 32 r s.tq ∧
      { t.gq with headHeld := s.gq.headHeld } = afterPress offer.gateway 16 r s.gq ∧
      t.dlp.notices = s.dlp.notices ||| noticeIf (offer.tablet && !admitsPress 32 s.tq) .overflow ∧
      t.vp.notices = s.vp.notices ||| noticeIf (offer.gateway && !admitsPress 16 s.gq) .overflow
  else
    t.kr = { s.kr with rollovers := min (s.kr.rollovers + 1) 65535 } ∧ t.tq = s.tq ∧ sameAt s t .gq ∧
      t.dlp.notices = s.dlp.notices ||| noticeIf offer.tablet .rollover ∧
      t.vp.notices = s.vp.notices ||| noticeIf offer.gateway .rollover

/-- The router has taken a release-kind event: every owner is given the report, the entry is gone, and a grace left without a covered
entry has ended (R89, R104, R105). -/
def releaseTaken (src : Source) (forced : Option Reason) (xy : Nat × Nat) (s t : State) : Prop :=
  match s.kr.table.find? (fun e => e.source == src) with
  | none => sameAt s t .kr ∧ sameAt s t .tq ∧ sameAt s t .gq ∧ sameAt s t .mlu
  | some e =>
    let kind :=
      match src, forced with
      | .site _, none => Kind.release
      | .site _, some _ => .forcedRelease
      | .touch, none => .touchUp
      | .touch, some _ => .forcedTouchUp
    let body :=
      match src with
      | .site _ => Body.key e.code e.cls
      | .touch => .touch xy.1 xy.2
    let r : Report := { kind := kind, seq := e.seq, time := s.clock, gap := false, body := body, reason := forced }
    t.kr.table = s.kr.table.eraseP (fun e => e.source == src) ∧ t.kr.seq = s.kr.seq ∧ routerKept s t ∧ candidateFollows s t ∧
      t.tq = afterRelease e.owners.tablet r s.tq ∧
      { t.gq with headHeld := s.gq.headHeld } = afterRelease e.owners.gateway r s.gq ∧
      t.mlu =
        if e.owners.tablet && s.mlu.lockout == .engaging && coveredCount t == 0 then
          { s.mlu with lockout := .engaged, graceTimer := none }
        else s.mlu

/-- A LOCKOUT notice for both masters goes with every change of the lockout state, and no other notice is set (R94). -/
def lockoutNoticed (s t : State) : Prop :=
  if t.mlu.lockout = s.mlu.lockout then sameAt s t .notices else noticed .lockout s t

/-- The entries that `named` picks and TABLET owns have been withdrawn from the tablet: TABLET has left their owner sets, and the tablet
queue has a forced release with reason LOCKOUT for each, oldest first, beside what it held, the first of them with the gap mark that was due (R106,
R127). -/
def withdrawn (named : HeldEntry → Bool) (s t : State) : Prop :=
  let taken := fun e : HeldEntry => e.owners.tablet && named e
  let xy := s.tpi.last.getD (0, 0)
  t.kr.table =
      s.kr.table.map (fun e => if taken e then { e with owners := { e.owners with tablet := false } } else e) ∧
    t.kr.seq = s.kr.seq ∧ routerKept s t ∧ candidateFollows s t ∧
    t.tq.reports.take s.tq.reports.length = s.tq.reports ∧
    (t.tq.reports.drop s.tq.reports.length).map (fun r => { r with gap := false }) =
      (s.kr.table.filter taken).map (fun e =>
        { kind := (match e.source with | .site _ => Kind.forcedRelease | .touch => .forcedTouchUp)
          seq := e.seq, time := s.clock, gap := false
          body := (match e.source with | .site _ => Body.key e.code e.cls | .touch => .touch xy.1 xy.2)
          reason := some .lockout }) ∧
    ((t.tq.reports.drop s.tq.reports.length).map Report.gap =
      ((s.kr.table.filter taken).zipIdx).map (fun p => s.tq.gap && p.2 == 0)) ∧
    t.tq.reserved = s.tq.reserved - (s.kr.table.filter taken).length ∧ t.tq.draining = s.tq.draining ∧
    t.tq.gap = (s.tq.gap && (s.kr.table.filter taken).isEmpty) ∧ t.tq.headHeld = s.tq.headHeld ∧
    t.tq.refusals = s.tq.refusals ∧ t.tq.moveDrops = s.tq.moveDrops

/-- A master's port is lost: it owns no entry, and its queue is flushed, but for its counters (R113, R131). -/
def portLost (m : Master) (s t : State) : Prop :=
  t.kr.table = s.kr.table.map (fun e => { e with owners := e.owners.without m }) ∧ t.kr.seq = s.kr.seq ∧ routerKept s t ∧
    candidateFollows s t ∧
    queueOf t m =
      { queueOf s m with reports := [], reserved := 0, draining := false, gap := false, headHeld := false }

/-- The target that the backlight's inputs ask for (R152). -/
def backlightAsked (t : State) : Nat :=
  if t.dss.current = .blank ∨ t.dss.target = .blank ∨ t.sst.standby = true then 0
  else min (max (min (16 + t.blr.light / 16) 255 * t.blr.gain / 128) 8) (if t.mlu.signals.night = some true then t.blr.nightCap else 255)

/-- The backlight has followed the display: a target of the display that changes has the backlight's target computed anew, and nothing else of
it changes (R140, R152). -/
def backlightFollows (s t : State) : Prop :=
  t.blr = { s.blr with target := if t.dss.target = s.dss.target then s.blr.target else backlightAsked t }

/-- A tablet port reset has taken place, which leaves the link state and the reply to its cause (R162): port loss with its end of a grace,
no notice shown and every one enabled, the display request off, the stored gain with the target computed anew (R154), the receiver empty. -/
def tabletPortWasReset (s t : State) : Prop :=
  portLost .tablet s t ∧
    (if s.mlu.lockout = .engaging then
      t.mlu = { s.mlu with lockout := .engaged, graceTimer := none } ∧ t.vp.notices = s.vp.notices ||| noticeWord .lockout
    else t.mlu = s.mlu ∧ t.vp.notices = s.vp.notices) ∧
    t.dlp.notices = 0#16 ∧ t.dlp.mask = allNotices ∧ t.dss.request = false ∧ t.dss.hold = s.dss.hold ∧ displayFollows s t ∧
    t.blr = { s.blr with gain := s.sst.storedGain, target := backlightAsked t } ∧ t.dlp.quiet = s.dlp.quiet ∧
    t.dlp.assembly = none ∧ t.dlp.frames = [] ∧ t.dlp.staleTimer = none ∧
    t.dlp.portResets = min (s.dlp.portResets + 1) 65535 ∧ t.dlp.crcErrors = s.dlp.crcErrors ∧
    t.dlp.lengthErrors = s.dlp.lengthErrors ∧ t.dlp.gapErrors = s.dlp.gapErrors ∧ t.dlp.overruns = s.dlp.overruns

/-- The standby timer once the standby condition, ignition off with the link ABSENT, has been taken anew in RUN: it starts with 60 s where the
condition becomes true, and stops where it is false (R202). -/
def standbyTimerTaken (s t : State) : Option Timer :=
  if t.mlu.signals.ignition = some false ∧ t.dlp.link = .absent then
    match s.sst.standbyTimer with
    | some tm => some tm
    | none => some { start := s.clock, span := 60000 }
  else none

/-- The part has left STANDBY (R204): the scans return to the configured period at the next scan start, a FAULT contact's retry comes 100 ms
after the exit (R150), and the standby timer runs again only if the condition still holds. -/
def leftStandby (s t : State) : Prop :=
  t.sst.standby = false ∧ t.sst.standbyTimer = standbyTimerTaken s t ∧ t.kfs.standbyScan = false ∧
    t.tpi.retry = if s.tpi.contact = .fault then some { start := s.clock, span := 100 } else s.tpi.retry

/-! ### The users of the vehicle signals -/

/-- The report of a changed ignition ends STANDBY: it is on, or not available (R204). -/
def ignitionWakes (s t : State) : Bool :=
  s.sst.standby && t.mlu.signals.ignition != s.mlu.signals.ignition && t.mlu.signals.ignition != some false

/-- The display selector and the standby logic have been told of the signals that differ (R75). Ignition on or not available ends STANDBY, and
in RUN ignition has the standby condition taken anew (R202, R204). Reverse, and an end of STANDBY, derive the desired source anew (R140, R204);
with both, reverse comes first, so that a switch it has started goes on or starts afresh (log entry 9). -/
def usersTold (s t : State) : Prop :=
  let reverseTold := t.mlu.signals.reverse ≠ s.mlu.signals.reverse
  let between := if t.mlu.signals.reverse = some true then Picture.gateway else .blank
  (ignitionWakes s t → leftStandby s t) ∧
    (¬ignitionWakes s t →
      t.sst.standby = s.sst.standby ∧ t.kfs.standbyScan = s.kfs.standbyScan ∧ t.tpi.retry = s.tpi.retry ∧
        t.sst.standbyTimer =
          if s.sst.standby = true ∨ t.mlu.signals.ignition = s.mlu.signals.ignition then s.sst.standbyTimer
          else standbyTimerTaken s t) ∧
    t.dss.request = s.dss.request ∧ t.dss.hold = s.dss.hold ∧
    (¬reverseTold → ¬ignitionWakes s t → t.dss = s.dss) ∧
    (reverseTold ∨ ignitionWakes s t → ¬(reverseTold ∧ ignitionWakes s t) → displayFollows s t) ∧
    (reverseTold ∧ ignitionWakes s t →
      t.dss.target = desiredPicture t ∧ t.dss.current = s.dss.current ∧
        t.dss.settle =
          if between = s.dss.target ∧ t.dss.target = between then s.dss.settle else some { start := s.clock, span := 40 })

/-- The backlight has been told of night, which changes its cap, and has followed the display and the operating condition: a level above a new
cap drops to it at once, and each change of an input computes the target anew (R152, R153). -/
def backlightTold (s t : State) : Prop :=
  let nightTold := t.mlu.signals.night ≠ s.mlu.signals.night
  t.blr = { s.blr with
    level := if nightTold then min s.blr.level (if t.mlu.signals.night = some true then s.blr.nightCap else 255) else s.blr.level
    target := if nightTold ∨ ignitionWakes s t ∨ t.dss.target ≠ s.dss.target then backlightAsked t else s.blr.target }

/-- Each signal that differs has been reported to its user (R75), and nothing else of the users' blocks has changed: of the settings store only
the operating condition and its timer, of the scanner only the standby scan flag, of the touch panel only the retry. -/
def signalsReported (s t : State) : Prop :=
  usersTold s t ∧ backlightTold s t ∧
    t.sst = { s.sst with standby := t.sst.standby, standbyTimer := t.sst.standbyTimer } ∧
    t.kfs = { s.kfs with standbyScan := t.kfs.standbyScan } ∧ t.tpi = { s.tpi with retry := t.tpi.retry }

/-! ### The events of a completion -/

/-- The events that the sites of a completion raise, from site `i` on, in ascending order of site index (R26, R37). -/
def eventsFrom : Nat → List SitePass → List (Nat × KeyEvent)
  | _, [] => []
  | i, p :: ps =>
    match p.event with
    | some ev => (i, ev) :: eventsFrom (i + 1) ps
    | none => eventsFrom (i + 1) ps

/-- The part has left STANDBY at a press, if it was in it (R204). -/
def wokenAt (s t : State) : Prop :=
  (s.sst.standby = true →
      leftStandby s t ∧ displayFollows s t ∧ t.dss.request = s.dss.request ∧ t.dss.hold = s.dss.hold ∧
        t.sst = { s.sst with standby := t.sst.standby, standbyTimer := t.sst.standbyTimer } ∧
        t.kfs = { s.kfs with standbyScan := t.kfs.standbyScan } ∧ t.tpi = { s.tpi with retry := t.tpi.retry } ∧
        t.blr = { s.blr with target := backlightAsked t } ∧ unchangedBut [.sst, .kfs, .dss, .tpi, .blr] s t) ∧
    (s.sst.standby = false → t = s)

/-- The router has taken one event of a site: a press, with the code and class that its record has then, or a release (R9, R37, R98). -/
def keyEventTaken (i : Nat) (ev : KeyEvent) (s t : State) : Prop :=
  match ev with
  | .press =>
    ∃ u, (∀ r, s.kfs.records[i]? = some r →
        pressTaken
          { source := .site i, code := r.code, cls := r.cls, time := s.clock, kind := .press, body := .key r.code r.cls } s u) ∧
      unchangedBut [.kr, .tq, .gq, .notices, .slots] s u ∧ wokenAt u t
  | .release =>
    releaseTaken (.site i) none (0, 0) s t ∧ lockoutNoticed s t ∧ unchangedBut [.kr, .tq, .gq, .mlu, .notices, .slots] s t
  | .forced reason =>
    releaseTaken (.site i) (some reason) (0, 0) s t ∧ lockoutNoticed s t ∧
      unchangedBut [.kr, .tq, .gq, .mlu, .notices, .slots] s t

/-- The router has taken the events one after another, in the order of the list. -/
def keyEventsTaken : List (Nat × KeyEvent) → State → State → Prop
  | [], s, t => t = s
  | (i, ev) :: rest, s, t => ∃ u, keyEventTaken i ev s u ∧ keyEventsTaken rest u t

/-! ### The fields of the records, in order, each with its width in bytes (R207, R209) -/

/-- The bytes of fields of one or two bytes, most significant byte first (R205). -/
def fieldBytes (fields : List (Nat × Nat)) : List Byte :=
  fields.flatMap fun f => if f.1 = 2 then [byte (f.2 / 256), byte f.2] else [byte f.2]

/-- A two-byte field that is FFFFh where the value is absent. -/
def optField (v : Option Nat) : Nat × Nat := (2, v.getD 0xFFFF)

/-- A report: kind, gap flag, sequence, time, code and class with two bytes of 00h for a key and x and y for touch, reason (R207, R208). -/
def reportRecord (r : Report) : List (Nat × Nat) :=
  [(1, match r.kind with
      | .press => 1
      | .release => 2
      | .repetition => 3
      | .forcedRelease => 4
      | .touchDown => 5
      | .touchMove => 6
      | .touchUp => 7
      | .forcedTouchUp => 8),
    (1, if r.gap then 1 else 0), (2, r.seq), (2, r.time)] ++
    (match r.body with
      | .key code cls => [(1, code), (1, cls), (1, 0), (1, 0)]
      | .touch x y => [(2, x), (2, y)]) ++
    [(1, match r.reason with
      | none => 0
      | some .lockout => 1
      | some .stuck => 2
      | some .fault => 3
      | some .config => 4
      | some .touch => 5)]

/-- A KEY_REPORT handed over by the gateway queue since its last flush carries the queue's head: the frame in the report slot has identifier
base + 3, the flexible data-rate format, and the head's 11-byte record with 00h after it (R130, R176, R182, R207, R210). -/
def headLaw (s : State) : Bool :=
  !s.gq.headHeld ||
    match s.gq.reports with
    | r :: _ => s.vp.reportSlot == some (sent s 3 .flexible (fieldBytes (reportRecord r) ++ [0#8]))
    | [] => false

/-- Occupancy, reserved count and flags of a queue. -/
def queueRecord (q : Queue) : List (Nat × Nat) :=
  [(1, q.reports.length), (1, q.reserved), (1, boolCode q.draining + 2 * boolCode q.gap)]

/-- GET_STATUS GENERAL. -/
def generalRecord (s : State) : List (Nat × Nat) :=
  [(1, linkCode s.dlp.link), (1, boolCode s.sst.standby), (2, (s.dlp.notices &&& s.dlp.mask).toNat), (2, s.dlp.mask.toNat),
    (1, causeCode s.sst.cause), (1, boolCode s.sst.configLock), (1, boolCode s.sst.save.isSome), (1, boolCode s.sst.defaultsInUse),
    (1, s.kfs.period), (1, boolCode s.kq.guard.wet), (1, sitesInFault s), (1, motionCode s.mlu.motion), (1, modeCode s.mlu.mode),
    (1, lockoutCode s.mlu.lockout), (1, pictureCode s.dss.current), (1, boolCode s.vp.online), (1, boolCode s.vp.heldOff)] ++
    queueRecord s.tq ++ queueRecord s.gq

/-- GET_STATUS ROUTES. -/
def routesRecord (s : State) : List (Nat × Nat) :=
  (s.crm.live.flatMap fun e =>
    [(1, routeCode e.route),
      (1, boolCode e.repeats + 2 * boolCode e.exempt + 4 * boolCode e.divert + 8 * boolCode e.locked)]) ++
    [(1, boolCode s.crm.shadow.isSome)]

/-- GET_STATUS HELD. -/
def heldRecord (s : State) : List (Nat × Nat) :=
  [(1, s.kr.table.length), (2, s.kr.seq), (2, s.kr.candidate.getD 0), (2, s.kr.delay), (1, s.kr.interval)] ++
    s.kr.table.flatMap fun e =>
      [(1, match e.source with | .site i => i | .touch => 0xFF), (1, e.code), (1, e.cls), (2, e.seq),
        (1, boolCode e.owners.tablet + 2 * boolCode e.owners.gateway), (2, e.pressTime)]

/-- GET_STATUS VEHICLE; the grace remaining is 0 unless ENGAGING. -/
def vehicleRecord (s : State) : List (Nat × Nat) :=
  let grace :=
    match s.mlu.lockout, s.mlu.graceTimer with
    | .engaging, some tm => tm.span - elapsed s.clock tm.start
    | _, _ => 0
  let i := s.axl.install
  [(1, motionCode s.mlu.motion), (1, modeCode s.mlu.mode), (1, lockoutCode s.mlu.lockout), (2, grace), (1, coveredCount s),
    optField s.mlu.signals.speed, (1, levelCode s.mlu.signals.reverse), (1, levelCode s.mlu.signals.ignition),
    (1, levelCode s.mlu.signals.brake), (1, levelCode s.mlu.signals.night),
    (1, sourceCode i.reverse + 2 * sourceCode i.ignition + 4 * sourceCode i.brake + 8 * sourceCode i.night),
    (1, s.mlu.staleness), (2, s.mlu.params.son), (2, s.mlu.params.soff), (2, s.mlu.params.grace),
    (1, boolCode s.mlu.params.brakeRequired)]

/-- The display fields before the calibration. -/
def pictureRecord (s : State) : List (Nat × Nat) :=
  [(1, pictureCode s.dss.current), (1, pictureCode s.dss.target), (1, boolCode s.dss.settle.isSome), (1, boolCode s.dss.request),
    (1, boolCode s.dss.hold), (1, contactCode s.tpi.contact), optField (s.tpi.last.map Prod.fst), optField (s.tpi.last.map Prod.snd)]

/-- The display fields after the calibration. -/
def lightRecord (s : State) : List (Nat × Nat) :=
  [(2, s.blr.light), (1, s.blr.gain), (1, s.blr.nightCap),
    (1, if s.mlu.signals.night = some true then s.blr.nightCap else 255), (1, s.blr.target), (1, s.blr.level)]

/-- GET_STATUS DISPLAY. -/
def displayRecord (s : State) : List (Nat × Nat) :=
  pictureRecord s ++ [(2, s.tpi.cal.xmin), (2, s.tpi.cal.xmax), (2, s.tpi.cal.ymin), (2, s.tpi.cal.ymax)] ++ lightRecord s

/-- STATUS_REQUEST GENERAL. The command's own frame has made the port ONLINE (R177). -/
def requestRecord (s : State) : List (Nat × Nat) :=
  [(1, 1), (1, boolCode s.vp.heldOff), (1, boolCode s.sst.standby), (2, (s.vp.notices &&& s.vp.mask).toNat), (2, s.vp.mask.toNat),
    (1, causeCode s.sst.cause), (1, boolCode s.sst.configLock), (1, boolCode s.sst.save.isSome), (1, boolCode s.sst.defaultsInUse),
    (1, boolCode s.kq.guard.wet), (1, sitesInFault s), (1, motionCode s.mlu.motion), (1, modeCode s.mlu.mode),
    (1, lockoutCode s.mlu.lockout), (1, linkCode s.dlp.link), (1, boolCode s.crm.shadow.isSome),
    (2, ((List.range 16).map fun n => if (classEntry s.crm.live n).locked then 2 ^ n else 0).sum),
    (1, s.kr.table.length), (2, s.kr.seq), (2, s.kr.candidate.getD 0)] ++
    queueRecord s.tq ++ queueRecord s.gq ++
    [(2, s.vp.base), (1, rateCode s.vp.rate), (2, s.axl.install.base), (1, rateCode s.axl.install.rate)]

/-- STATUS_REQUEST VEHICLE. -/
def requestVehicleRecord (s : State) : List (Nat × Nat) :=
  vehicleRecord s ++
    (s.axl.install.lines.zip s.axl.lines).flatMap fun p =>
      [(1, lineModeCode p.1.mode), (1, lineFunctionCode p.1.function), (1, levelCode p.2.debounced)]

/-- STATUS_REQUEST DISPLAY. -/
def requestPictureRecord (s : State) : List (Nat × Nat) := pictureRecord s ++ lightRecord s ++ [(2, s.tpi.faults)]

/-- The snapshot record: the presence byte, and an absent field as 0000h (R50, R207). -/
def snapshotRecord (n : Snapshot) : List (Nat × Nat) :=
  [(1, n.site), (2, n.time), (1, siteStateCode n.state), (1, boolCode n.rejected),
    (1, boolCode n.raw.isSome + 2 * boolCode n.corrected.isSome + 4 * boolCode n.base.isSome + 8 * boolCode n.delta.isSome),
    (2, n.raw.getD 0), (2, n.corrected.getD 0), (2, n.base.getD 0), (2, (BitVec.ofInt 16 (n.delta.getD 0)).toNat)]

/-! ### Start-up -/

/-- What a start-up with a cause leaves, for the image that it loads and the level of TPRES, with the first PART_STATUS already in the control slot and every
schedule and timer of R201 at its starting point (log entry 10; R16, R24, R54, R93, R117, R136, R157, R175,
R191, R192, R194, R201). -/
def startedUp (cause : ResetCause) (image : Memory) (tpres : Bool) (t : State) : Prop :=
  let l := loadImage image
  let c := l.settings
  let shown := noticeWord .reset ||| (if l.replaced then noticeWord .storeDefaulted else 0#16)
  (t.held = false ∧ t.clock = 0 ∧ counters t = List.replicate 19 0) ∧
  (t.sst.image = image ∧ t.sst.cause = cause ∧ t.sst.save = none ∧ t.sst.configLock = false ∧ t.sst.standby = false ∧
    t.sst.standbyTimer = none ∧ t.sst.defaultsInUse = l.defaultsInUse ∧ t.sst.storedGain = c.gain) ∧
  (t.kfs.records = c.sites ∧ t.kfs.measured = none ∧ t.kfs.standbyScan = false ∧ 
    t.kq.quals = (c.sites.map fun r => {
      state := if r.enabled then .idle else .off, base := 0, reseed := true, debounce := 0, negRun := 0, railRun := 0, clearRun := 0
      pressTime := none, trim := none }) ∧
    t.kq.guard = { base := 0, reseed := true, wet := false, wetRun := 0, dryRun := 0, negRun := 0 } ∧
    t.kq.settings = c.qualify ∧ t.kq.snapshot = none ∧ t.kq.snapSelect = 0) ∧
  (t.crm.live = c.classes ∧ t.crm.shadow = none ∧ t.mlu.signals = noSignals ∧ t.mlu.last = noSignals ∧ t.mlu.staleness = 4 ∧
    t.mlu.received = false ∧ t.mlu.motion = .unknown ∧ t.mlu.mode = c.mode ∧ t.mlu.params = c.params ∧
    t.mlu.lockout = .opened ∧ t.mlu.graceTimer = none ∧ t.mlu.conditionTaken = false) ∧
  (t.kr.table = [] ∧ t.kr.seq = 0 ∧ t.kr.candidate = none ∧ t.kr.repeatTimer = none ∧ t.kr.delay = c.delay ∧
    t.kr.interval = c.interval ∧ t.tq = emptyQueue ∧ t.gq = emptyQueue) ∧
  (t.dss.current = .blank ∧ t.dss.target = .blank ∧ t.dss.settle = none ∧ t.dss.request = false ∧ t.dss.hold = false ∧
    t.tpi.contact = .none ∧ t.tpi.last = none ∧ t.tpi.failRun = 0 ∧ t.tpi.reading = false ∧ t.tpi.cal = c.cal ∧
    t.blr.light = 0 ∧ t.blr.gateCount = 0 ∧ t.blr.level = 0 ∧ t.blr.target = 0 ∧ t.blr.gain = c.gain ∧ t.blr.nightCap = c.nightCap) ∧
  (t.dlp.tpres = tpres ∧ t.dlp.link = (if tpres then .settling else .absent) ∧ t.dlp.frames = [] ∧ t.dlp.assembly = none ∧
    t.dlp.reply = none ∧ t.dlp.notices = shown ∧ t.dlp.mask = allNotices) ∧
  (t.vp.online = false ∧ t.vp.heldOff = false ∧ t.vp.silence = none ∧ t.vp.reply = none ∧ t.vp.reportSlot = none ∧ t.vp.statusDue = false ∧
    t.vp.notices = shown ∧ t.vp.mask = allNotices ∧ t.vp.base = c.install.base ∧ t.vp.rate = c.install.rate ∧
    t.axl.install = c.install ∧ t.axl.lines.all (fun l => l.debounced.isNone) = true) ∧
  (∃ d, t.vp.controlSlot = some (.partStatus { id := c.install.base + 4, format := .classical, rate := c.install.rate, data := d }) ∧
    d.length = 8 ∧ d.getLast? = some (byte (causeCode cause))) ∧
  (t.kfs.period = c.qualify.period ∧ t.kfs.nextStart = { start := 0, span := 0 } ∧
    t.mlu.stalenessMark = { start := 0, span := 125 } ∧ t.blr.gateEnd = { start := 0, span := 100 } ∧
    t.blr.rampMark = { start := 0, span := 20 } ∧ t.vp.statusMark = { start := 0, span := 1000 } ∧
    t.tpi.lastStart = none ∧ t.tpi.retry = none ∧
    t.dlp.settleTimer = (if tpres then some { start := 0, span := 250 } else none) ∧ t.dlp.dropTimer = none ∧
    t.dlp.staleTimer = none ∧ t.vp.holdOff = none ∧
    ∀ (k : Nat) (v : Line), t.axl.lines[k]? = some v → ∀ n, c.install.lines[k]? = some n →
      v.timer = if n.mode = .inputHigh ∨ n.mode = .inputLow then some { start := 0, span := 20 } else none)

/-! ### The commands by port (R206) -/

/-- The commands of the tablet alone: code, length of the arguments, and the command. -/
def tabletCommands : List (Byte × Nat × (Port → List Byte → Instr)) :=
  [(0x01#8, 1, .getReports), (0x02#8, 1, .getStatus), (0x03#8, 0, .getCounters), (0x06#8, 0, .resetPort), (0x10#8, 3, .setRoute),
    (0x11#8, 8, .setKey), (0x12#8, 5, .setTrim), (0x13#8, 10, .setQualify), (0x14#8, 3, .setRepeat), (0x15#8, 1, .setBrightness),
    (0x16#8, 1, .requestDisplay), (0x17#8, 8, .setTouchCal), (0x18#8, 15, .setInstall), (0x1A#8, 0, .loadSettings),
    (0x1B#8, 1, .snapshotSelect), (0x1C#8, 0, .getSnapshot)]

/-- The commands of both ports. -/
def sharedCommands : List (Byte × Nat × (Port → List Byte → Instr)) :=
  [(0x04#8, 2, .clearNotices), (0x05#8, 2, .setNoticeMask), (0x19#8, 0, .saveSettings)]

/-- The commands that only the gateway may send. -/
def gatewayCommands : List (Byte × Nat × (Port → List Byte → Instr)) :=
  [(0x40#8, 6, .route), (0x41#8, 0, .editBegin), (0x42#8, 0, .editApply), (0x43#8, 0, .editAbandon), (0x44#8, 1, .lockoutMode),
    (0x45#8, 7, .lockoutParams), (0x46#8, 1, .displayHold), (0x47#8, 1, .nightCap), (0x48#8, 0, .configLock),
    (0x49#8, 1, .statusRequest), (0x4A#8, 0, .resetPart)]

/-- Every command of the two ports. -/
def portCommands : List (Byte × Nat × (Port → List Byte → Instr)) := tabletCommands ++ sharedCommands ++ gatewayCommands

/-- The tablet's commands that the configuration lock and a motion state other than PARKED refuse (R199). -/
def parkedCommands : List (Byte × Nat × (Port → List Byte → Instr)) :=
  [(0x11#8, 8, .setKey), (0x12#8, 5, .setTrim), (0x13#8, 10, .setQualify), (0x18#8, 15, .setInstall), (0x19#8, 0, .saveSettings),
    (0x1A#8, 0, .loadSettings)]

/-- The tablet's commands that the configuration lock refuses in every motion state (R199). -/
def lockedCommands : List (Byte × Nat × (Port → List Byte → Instr)) :=
  [(0x10#8, 3, .setRoute), (0x14#8, 3, .setRepeat), (0x17#8, 8, .setTouchCal)]

end Sys2Proof.Machine
end

