-- ==== Sys2Proof/Certificates/Slice0/Obligations.lean ====
section
/-! DEFINITION. The statements for the provers. Each says, in the model's terms, what rules of the spec say; a statement that rests on
a choice of the model's own names the log entry in its docstring. -/

section

open Sys2Proof Sys2Proof.Machine

/-! ### The step and time -/

/-- A step takes the command at the front of the queue and runs it with the queue's rest; with none waiting the part idles (log entry 1). -/
def Obligations.StepTakesFrontCommand : Prop :=
  ∀ (c : Instr) (rest : List Instr) (s : State),
    step { s with pending := c :: rest } = exec c { s with pending := rest } ∧
      step { s with pending := [] } = .next { s with pending := [] }

/-- Every command in every state gives a next state (R3: a refused command is answered, not stopped) and leaves the queue of waiting commands alone,
through every reset too (log entry 1). A tick alone counts the millisecond counter on, and only the commands that can bring a full reset may set it to
0; that a full reset does is said by FullResetsStartThePartUp (R2). A tick also makes the quiet on the dock link's receive line a millisecond longer,
which the model counts in ticks up to 6 (R165; log entry 7 for that count). -/
def Obligations.CommandsCompleteAndOnlyTicksMoveTime : Prop :=
  (∀ (c : Instr) (s : State), ∃ t, exec c s = .next t ∧ t.pending = s.pending ∧
    (t.clock = s.clock ∨ (c = .timebaseTick ∧ t.clock = (s.clock + 1) % 65536) ∨
      (t.clock = 0 ∧ c ∈ [Instr.powerOn, .supplyDip, .supplyRestored, .controlTxComplete, .busOff]))) ∧
  (∀ s : State, s.held = false → ∃ t, exec .timebaseTick s = .next t ∧ t.clock = (s.clock + 1) % 65536 ∧
    t.dlp = { s.dlp with quiet := min (s.dlp.quiet + 1) 6 } ∧ unchangedBut [.clock, .receiver, .slots, .pins] s t)

/-! ### Full reset and the supply -/

/-- State.reset is what a start-up at power-on leaves of a blank image (log entries 2, 6 and 10: that the image reads 00h throughout and that the pins
are low are the model's choices). Each law that a step keeps holds in it: queueLaw, seqLaw, portLaw, tableLaw, lockoutLaw, displayLaw, capLaw,
saveLaw, touchClassLaw, siteSettingsLaw, otherSettingsLaw, bufferLaw, counterLaw and headLaw, and pinLaw too. The slots' law alone does not: status is
due there with a free control slot, which the first command loads (log entry 10). -/
def Obligations.ResetStateIsPowerOnOfBlankImage : Prop :=
  (∃ t, exec .powerOn State.reset = .next t ∧ startedUp .powerOn [] false t ∧ t.kfs = State.reset.kfs ∧ t.kq = State.reset.kq ∧
    t.crm = State.reset.crm ∧ t.mlu = State.reset.mlu ∧ t.kr = State.reset.kr ∧ t.sst = State.reset.sst ∧ t.dlp = State.reset.dlp) ∧
  (queueLaw State.reset && seqLaw State.reset && portLaw State.reset && tableLaw State.reset && lockoutLaw State.reset &&
    displayLaw State.reset && capLaw State.reset && pinLaw State.reset && saveLaw State.reset && touchClassLaw State.reset &&
    siteSettingsLaw State.reset && otherSettingsLaw State.reset && bufferLaw State.reset && counterLaw State.reset &&
    headLaw State.reset) = true ∧
  slotLaw State.reset = false

/-- Power-on, the return of the supply after a dip, and RESET_PART at its reply's completion or at the bus-off that abandons it, each start
the part up: every block at its reset value, with the settings loaded from the image, and the schedules and timers of R201 started: the first
scan, the staleness, ramp and status marks, the light gate, the settle timer of SETTLING and the debounce of each input line (R187, R194, R200,
R201; log entries 8 and 10). -/
def Obligations.FullResetsStartThePartUp : Prop :=
  (∀ s : State, s.sst.save = none → ∃ t, exec .powerOn s = .next t ∧ startedUp .powerOn s.sst.image s.dlp.tpres t) ∧
  (∀ s : State, s.held = true → ∃ t, exec .supplyRestored s = .next t ∧ startedUp .supplyDip s.sst.image s.dlp.tpres t) ∧
  (∀ (s : State) (d : BusFrame), s.held = false → s.sst.save = none → s.vp.controlSlot = some (.segment d) →
    s.vp.reply = some { rest := [], resets := true } →
    (∃ t, exec .controlTxComplete s = .next t ∧ startedUp .commanded s.sst.image s.dlp.tpres t) ∧
      (s.vp.heldOff = false → ∃ t, exec .busOff s = .next t ∧ startedUp .commanded s.sst.image s.dlp.tpres t))

/-- A supply dip loses all the state and holds the part: until the supply is back or applied anew, every command but one that moves an
input pin leaves the state as it is (R200; log entry 8 for the pins). -/
def Obligations.SupplyDipHoldsThePart : Prop :=
  (∀ s : State, ∃ t, exec .supplyDip s = .next t ∧ t.held = true ∧ t.sst.cause = .supplyDip ∧ t.sst.save = none ∧
    t.sst.configLock = false ∧ t.kr.table = [] ∧ t.tq = emptyQueue ∧ t.gq = emptyQueue ∧ counters t = List.replicate 19 0 ∧
    t.crm.shadow = none ∧ t.mlu.lockout = .opened ∧ t.dss.target = .blank ∧ t.dlp.link = .absent ∧ t.dlp.notices = 0#16 ∧
    t.vp.notices = 0#16 ∧ t.vp.reply = none ∧ t.vp.controlSlot = none ∧ t.vp.reportSlot = none ∧
    (s.sst.save = none → t.sst.image = s.sst.image)) ∧
  (∀ (c : Instr) (s : State), s.held = true →
    (match c with
      | .powerOn | .supplyDip | .supplyRestored => True
      | .touchReadStart high => exec c s = .next (s.setTpi { s.tpi with interrupt := high })
      | .tpresAsserted => exec c s = .next (s.setDlp { s.dlp with tpres := true })
      | .tpresDeasserted => exec c s = .next (s.setDlp { s.dlp with tpres := false })
      | .auxLevelChange _ _ => ∃ t, exec c s = .next t ∧ unchangedBut [.axl] s t ∧ t.axl.install = s.axl.install
      | _ => exec c s = .next s))

/-- A save that a full reset cuts off leaves an image without a valid identifier, so that the part starts on factory defaults, with STORE_DEFAULTED
for both masters and defaults in use: a power-on, RESET_PART at its reply's completion or at the bus-off that abandons it, and a supply dip, whose
start-up comes with the supply's return (R187, R193, R198, R200; log entry 8 for POWER_ON in any state). -/
def Obligations.InterruptedSaveLoadsFactoryDefaults : Prop :=
  ∀ s : State, saveLaw s = true → s.sst.save.isSome = true →
    let onDefaults := fun (cause : ResetCause) (t : State) =>
      startedUp cause t.sst.image s.dlp.tpres t ∧ imageValid t.sst.image = false ∧
      t.sst.defaultsInUse = true ∧ t.sst.save = none ∧ t.kfs.records = factorySettings.sites ∧
      t.crm.live = factorySettings.classes ∧ t.mlu.params = defaultParams ∧ t.axl.install = defaultInstallation ∧
      t.dlp.notices = noticeWord .reset ||| noticeWord .storeDefaulted ∧
      t.vp.notices = noticeWord .reset ||| noticeWord .storeDefaulted
    (∃ t, exec .powerOn s = .next t ∧ onDefaults .powerOn t) ∧
    (∃ t, exec .supplyDip s = .next t ∧ imageValid t.sst.image = false ∧ t.held = true ∧
      ∃ u, exec .supplyRestored t = .next u ∧ onDefaults .supplyDip u) ∧
    (∀ d : BusFrame, s.held = false → s.vp.controlSlot = some (.segment d) → s.vp.reply = some { rest := [], resets := true } →
      (∃ t, exec .controlTxComplete s = .next t ∧ onDefaults .commanded t) ∧
        (s.vp.heldOff = false → ∃ t, exec .busOff s = .next t ∧ onDefaults .commanded t))

/-! ### Scans and qualification -/

/-- A scan start takes the sites that are enabled at that moment, and puts the configured period, or 64 ms in STANDBY, in force from that
start on (R11, R13, R14). -/
def Obligations.ScanStartTakesEnabledSites : Prop :=
  ∀ s : State, s.held = false → s.kfs.nextStart.due s.clock = true →
    ∃ t, exec .scanStart s = .next t ∧
      t.kfs.period = (if s.kfs.standbyScan then 64 else s.kq.settings.period) ∧
      t.kfs.nextStart = { start := (s.kfs.nextStart.start + s.kfs.nextStart.span) % 65536, span := t.kfs.period } ∧
      t.kfs.records = s.kfs.records ∧ t.kfs.standbyScan = s.kfs.standbyScan ∧
      (∃ m, t.kfs.measured = some m ∧ ∀ i, i ∈ m ↔ ∃ r, s.kfs.records[i]? = some r ∧ r.enabled = true) ∧
      unchangedBut [.kfs, .slots, .pins] s t

/-- A completion stores what its stages leave, with its counters and the snapshot, and the router takes the event that a site raises: a PRESS with the
code and class of the record, a release, or a forced release (R9, R26, R33, R36, R37, R50, R51, R98). A PRESS also ends STANDBY, at a rollover too
(R204; log entry 17 for the rollover). A completion at which every site and the guard are to be reseeded seeds each measured site's baseline with 16
times its corrected count, raises no event, and, being the first after the reset, takes the lockout condition (R24, R31, R40, R93). In any completion
the STUCK, KEY_FAULT and WET notices are set for both masters where a site's stuck test expires, a site enters FAULT, WET changes (R27, R36, R41);
then the router takes the events of all sites, in ascending order of site index (R26, R98), the forced releases of sites that enter FAULT at
preparation among them (log entry 12); then, at the first completion after a full reset, the lockout condition is taken (R93). Of the settings store
only the operating condition and its timer change, at an end of STANDBY. -/
def Obligations.ScanCompletionsStoreAndReport : Prop :=
  (∀ (s : State) (m : List Nat) (guard : Count) (counts : List Count), s.held = false → s.kfs.measured = some m →
     let c := runStages s m guard.val counts
     let quiet := s.mlu.conditionTaken = true ∧ c.guard.wet = s.kq.guard.wet ∧ ∀ p ∈ c.sites, p.faulted = false
     ∃ t, exec (.scanCompletion guard counts) s = .next t ∧
       t.kq = { s.kq with
         quals := c.sites.map SitePass.qual, guard := c.guard
         rejectedScans := if c.rejected then min (s.kq.rejectedScans + 1) 65535 else s.kq.rejectedScans
         stuckExpiries := bumpBy s.kq.stuckExpiries (c.sites.countP SitePass.stuck)
         faultEntries := bumpBy s.kq.faultEntries (c.sites.countP SitePass.faulted)
         snapshot := (c.sites[s.kq.snapSelect]?).map (snapshotOf s.kq.snapSelect s.clock c.rejected) } ∧
       t.kfs = { s.kfs with records := c.sites.map SitePass.record, measured := none, standbyScan := t.kfs.standbyScan } ∧
       t.sst = { s.sst with standby := t.sst.standby, standbyTimer := t.sst.standbyTimer } ∧
       t.tpi = { s.tpi with retry := t.tpi.retry } ∧ t.blr = { s.blr with target := t.blr.target } ∧ t.mlu.conditionTaken = true ∧
       ((∀ p ∈ c.sites, p.event = none) → t.kr = s.kr ∧ t.tq = s.tq ∧ sameAt s t .gq ∧ t.sst = s.sst) ∧
       (∀ (i : Nat) (p : SitePass), c.sites[i]? = some p → (∀ (j : Nat) (q : SitePass), c.sites[j]? = some q → j ≠ i → q.event = none) →
         quiet →
         (p.event = some .press → (s.sst.standby = true → leftStandby s t) ∧
           pressTaken { source := .site i, code := p.record.code, cls := p.record.cls, time := s.clock, kind := .press
                        body := .key p.record.code p.record.cls } s t) ∧
         (p.event = some .release → releaseTaken (.site i) none (0, 0) s t ∧ lockoutNoticed s t) ∧
         (∀ reason, p.event = some (.forced reason) → releaseTaken (.site i) (some reason) (0, 0) s t)) ∧
       (∃ u v, u.kq = t.kq ∧ u.kfs = { s.kfs with records := c.sites.map SitePass.record, measured := none } ∧
         (let shown := noticeIf (c.guard.wet != s.kq.guard.wet) .wet ||| noticeIf (c.sites.any SitePass.faulted) .keyFault |||
            noticeIf (c.sites.any SitePass.stuck) .stuck
          u.dlp.notices = s.dlp.notices ||| shown ∧ u.vp.notices = s.vp.notices ||| shown) ∧
         unchangedBut [.kfs, .kq, .notices, .slots] s u ∧ keyEventsTaken (eventsFrom 0 c.sites) u v ∧
         (s.mlu.conditionTaken = true → t.mlu = v.mlu ∧ sameAt v t .notices) ∧
         (s.mlu.conditionTaken = false →
           t.mlu = { v.mlu with conditionTaken := true, lockout := t.mlu.lockout, graceTimer := t.mlu.graceTimer } ∧
           lockoutFollows (lockoutCondition v) (v.setMlu { v.mlu with conditionTaken := true }) t) ∧
         unchangedBut [.mlu, .notices, .slots, .pins] v t) ∧
       unchangedBut [.kfs, .kq, .kr, .tq, .gq, .mlu, .dss, .tpi, .blr, .sst, .notices, .slots, .pins] s t) ∧
  (∀ (s : State) (m : List Nat) (guard : Count) (counts : List Count), s.held = false → s.kfs.measured = some m →
     s.kfs.records.length = 96 → s.kq.quals.length = 96 → counts.length = 96 → s.kq.guard.reseed = true →
     s.kq.settings.guardThr ≠ 0 → s.mlu.conditionTaken = false → s.mlu.lockout = .opened →
     (∀ q ∈ s.kq.quals, q.reseed = true ∧ q.trim = none ∧ q.railRun = 0 ∧ (q.state = .idle ∨ q.state = .off)) →
     ∃ t, exec (.scanCompletion guard counts) s = .next t ∧ t.kfs.measured = none ∧ t.kfs.records = s.kfs.records ∧
       (∀ (i : Nat) (r : SiteRecord), s.kfs.records[i]? = some r → ∀ q, s.kq.quals[i]? = some q → ∀ c, counts[i]? = some c →
         ∃ q', t.kq.quals[i]? = some q' ∧ q'.state = q.state ∧
           (m.contains i = true ∧ r.enabled = true → q'.base = 16 * correctedCount c.val r.offset r.gain ∧ q'.reseed = false) ∧
           (¬(m.contains i = true ∧ r.enabled = true) → q' = q)) ∧
       t.kq.guard.base = 16 * guard.val ∧ t.kq.guard.reseed = false ∧ t.kq.guard.wet = s.kq.guard.wet ∧
       t.kr = s.kr ∧ t.tq = s.tq ∧ t.mlu.conditionTaken = true ∧
       (lockoutCondition s = false → t.mlu.lockout = .opened) ∧
       (lockoutCondition s = true → coveredCount s = 0 → t.mlu.lockout = .engaged ∧ noticed .lockout s t) ∧
       unchangedBut [.kfs, .kq, .mlu, .notices, .slots, .pins] s t)

/-- The corrected count: the offset sum S in −512..4606, 0 where S is 0 or less, else S × (1024 + G) / 2048 rounded down and at most 4095 (R30). A
scaled touch coordinate: (raw − low) × 4095 / (high − low), rounded down and held in 0..4095 (R146). -/
def Obligations.MeasurementsAreScaledAndClamped : Prop :=
  (∀ (raw gain : Nat) (offset : Int), raw ≤ 4095 → -512 ≤ offset → offset ≤ 511 → gain ≤ 2047 →
     (-512 ≤ (raw : Int) + offset ∧ (raw : Int) + offset ≤ 4606) ∧ correctedCount raw offset gain ≤ 4095 ∧
     ((raw : Int) + offset ≤ 0 → correctedCount raw offset gain = 0) ∧
     (0 < (raw : Int) + offset →
       (correctedCount raw offset gain : Int) = min ((((raw : Int) + offset) * (1024 + gain)).fdiv 2048) 4095)) ∧
  (∀ raw lo hi : Nat, raw ≤ 4095 → lo + 256 ≤ hi → hi ≤ 4095 →
     scaleAxis raw lo hi ≤ 4095 ∧ (raw ≤ lo → scaleAxis raw lo hi = 0) ∧ (hi ≤ raw → scaleAxis raw lo hi = 4095) ∧
     (lo ≤ raw → raw ≤ hi → scaleAxis raw lo hi = (raw - lo) * 4095 / (hi - lo)))

/-- The key state machine, row by row: IDLE and CANDIDATE against the effective threshold, PRESSED and RELEASING against the release level,
and the effect of a rejection (R34, R35). -/
def Obligations.KeyStateMachineRows : Prop :=
  ∀ (set : QualifySettings) (now : Nat) (rejected : Bool) (r : SiteRecord) (q : SiteQual) (d : Int) (thr : Nat),
    let u := stateUpdate set now rejected r q d thr
    let release := (r.thr : Int) - r.hyst
    let pressed := ({ q with state := .pressed, pressTime := some now, debounce := 0 }, some KeyEvent.press)
    let released := ({ q with state := .idle, pressTime := none, debounce := 0 }, some KeyEvent.release)
    (q.state = .idle → rejected = true ∨ d < thr → u = (q, none)) ∧
    (q.state = .idle → rejected = false → d ≥ thr →
      (set.np ≤ 1 → u = pressed) ∧ (2 ≤ set.np → u = ({ q with state := .candidate, debounce := 1 }, none))) ∧
    (q.state = .candidate → rejected = true ∨ d < thr → u = ({ q with state := .idle, debounce := 0 }, none)) ∧
    (q.state = .candidate → rejected = false → d ≥ thr →
      (q.debounce + 1 ≥ set.np → u = pressed) ∧
        (q.debounce + 1 < set.np → u = ({ q with debounce := q.debounce + 1 }, none))) ∧
    (q.state = .pressed → d ≥ release → u = (q, none)) ∧
    (q.state = .pressed → d < release →
      (set.nr ≤ 1 → u = released) ∧ (2 ≤ set.nr → u = ({ q with state := .releasing, debounce := 1 }, none))) ∧
    (q.state = .releasing → d ≥ release → u = ({ q with state := .pressed, debounce := 0 }, none)) ∧
    (q.state = .releasing → d < release →
      (q.debounce + 1 ≥ set.nr → u = released) ∧
        (q.debounce + 1 < set.nr → u = ({ q with debounce := q.debounce + 1 }, none)))

/-- The baseline update by the delta: the dry part tracks inside ±h by one 2^k-th of the error truncated toward zero and never past the
count, four low deltas seed it anew, and the hold band and WET leave it; it stays in 0..65,520 (R39). The run counters: WET after 3 wet guard
readings and dry after 20; FAULT at the eighth rail reading, with a forced release from a held site; out of FAULT at the eighth clear reading
(R27, R28, R41). -/
def Obligations.BaselinesAndRunsFollowTheReadings : Prop :=
  (∀ (rate half base run count : Nat) (wet : Bool), 4 ≤ rate → rate ≤ 7 → 4 ≤ half → base ≤ 65520 → count ≤ 4095 →
     let d : Int := (count : Int) - (base / 16 : Nat)
     let e : Int := 16 * (count : Int) - base
     let u := baselineUpdate rate wet half base run count d
     (d ≤ -(half : Int) → (run + 1 < 4 → u = (base, run + 1)) ∧ (4 ≤ run + 1 → u = (16 * count, 0))) ∧
     (-(half : Int) < d → d < half → u.2 = 0 ∧ (wet = true → u.1 = base) ∧
       (wet = false → (u.1 : Int) = base + e.tdiv (2 ^ rate) ∧
         (0 ≤ e → base ≤ u.1 ∧ u.1 ≤ 16 * count) ∧ (e ≤ 0 → 16 * count ≤ u.1 ∧ u.1 ≤ base))) ∧
     ((half : Int) ≤ d → u = (base, 0)) ∧ u.1 ≤ 65520) ∧
  ((∀ (thr : Nat) (g : GuardState) (d : Int),
     (g.wet = false → d < thr → wetRuns thr g d = { g with wetRun := 0 }) ∧
     (g.wet = false → d ≥ thr → g.wetRun < 2 → wetRuns thr g d = { g with wetRun := g.wetRun + 1 }) ∧
     (g.wet = false → d ≥ thr → g.wetRun = 2 → wetRuns thr g d = { g with wet := true, wetRun := 0, dryRun := 0 }) ∧
     (g.wet = true → d ≥ (thr / 2 : Nat) → wetRuns thr g d = { g with dryRun := 0 }) ∧
     (g.wet = true → d < (thr / 2 : Nat) → g.dryRun < 19 → wetRuns thr g d = { g with dryRun := g.dryRun + 1 }) ∧
     (g.wet = true → d < (thr / 2 : Nat) → g.dryRun = 19 → wetRuns thr g d = { g with wet := false, wetRun := 0, dryRun := 0 })) ∧
   (∀ (wet : Bool) (margin raw : Nat) (r : SiteRecord) (q : SiteQual),
     (q.state ≠ .fault → (raw = 0 ∨ raw = 4095) → q.railRun = 7 →
       prepareSite wet margin raw r q =
         { record := r
           qual := { q with state := .fault, railRun := 8, debounce := 0, negRun := 0, clearRun := 0, pressTime := none }
           before := q.state, found := .stopped raw
           event := if q.state = .pressed ∨ q.state = .releasing then some (.forced .fault) else none }) ∧
     (q.state ≠ .fault → (raw = 0 ∨ raw = 4095) → q.railRun < 7 →
       (prepareSite wet margin raw r q).qual.railRun = q.railRun + 1 ∧ (prepareSite wet margin raw r q).qual.state = q.state ∧
         (prepareSite wet margin raw r q).event = none) ∧
     (q.state ≠ .fault → ¬(raw = 0 ∨ raw = 4095) → (prepareSite wet margin raw r q).qual.railRun = 0) ∧
     (q.state = .fault → raw ≠ 0 → raw ≠ 4095 → q.clearRun < 7 →
       (prepareSite wet margin raw r q).qual = { q with clearRun := q.clearRun + 1 }) ∧
     (q.state = .fault → raw ≠ 0 → raw ≠ 4095 → q.clearRun = 7 →
       (prepareSite wet margin raw r q).qual = { q with state := .idle, railRun := 0, clearRun := 0, reseed := true }) ∧
     (q.state = .fault → (raw = 0 ∨ raw = 4095) → (prepareSite wet margin raw r q).qual = { q with clearRun := 0 })))

/-- A completion with M or more would-be presses is rejected, and a rejected completion raises no PRESS, makes no IDLE site a CANDIDATE,
returns every CANDIDATE that it judges to IDLE, and moves no baseline that was not reseeded, the guard's among them; a completion below
M is not rejected (R33). A site raises a PRESS exactly when it enters PRESSED from outside PRESSED and RELEASING, and a release-kind event
exactly when it leaves those two (R37). -/
def Obligations.CompletionStagesRejectAndRaiseEvents : Prop :=
  (∀ (s : State) (m : List Nat) (guard : Nat) (counts : List Count),
     let c := runStages s m guard counts
     let g := (evalGuard s.kq.settings.guardThr s.kq.guard guard).1
     let found := prepareSites m g.wet s.kq.settings.wetMargin 0 counts s.kfs.records s.kq.quals
     (c.rejected = true ↔ s.kq.settings.common ≤ found.countP wouldPress) ∧
     (c.rejected = true → c.guard = g ∧
       ∀ (i : Nat) (p : SitePass), c.sites[i]? = some p → ∀ q, s.kq.quals[i]? = some q →
         p.event ≠ some .press ∧
         (q.state = .idle → p.qual.state = .idle ∨ p.qual.state = .fault) ∧
         (q.state = .candidate → p.found ≠ .noCount → p.qual.state = .idle ∨ p.qual.state = .fault ∨
           ∃ raw corrected, p.found = .reseeded raw corrected) ∧
         ((∀ raw corrected, p.found ≠ .reseeded raw corrected) →
           p.qual.base = q.base ∧ (p.qual.state ≠ .fault → p.qual.negRun = q.negRun)))) ∧
  (∀ (s : State) (m : List Nat) (guard : Nat) (counts : List Count) (i : Nat) (p : SitePass) (q : SiteQual),
     (runStages s m guard counts).sites[i]? = some p → s.kq.quals[i]? = some q →
     (p.event = some .press ↔ isHeld q.state = false ∧ isHeld p.qual.state = true) ∧
     ((∃ ev, p.event = some ev ∧ ev ≠ .press) ↔ isHeld q.state = true ∧ isHeld p.qual.state = false))

/-- The stuck expiry of a held site: a STUCK forced release to every owner, with the end of the entry, of a grace left without a covered entry and the
choice of the candidate, the site IDLE and to be reseeded, the stuck counter, and the STUCK notice for both masters (R36, R89, R105; log entry 11 for
the event of its own). -/
def Obligations.StuckExpiryForcesTheRelease : Prop :=
  ∀ (s : State) (site : SiteIndex) (q : SiteQual) (pressed : Nat), s.held = false → s.kq.quals[site.val]? = some q →
    (q.state = .pressed ∨ q.state = .releasing) → q.pressTime = some pressed → s.kq.settings.stuck ≠ 0 →
    s.kq.settings.stuck * 1000 ≤ elapsed s.clock pressed →
    ∃ t, exec (.stuckExpiry site) s = .next t ∧
      t.kq = { s.kq with
        quals := s.kq.quals.set site.val { q with state := .idle, pressTime := none, debounce := 0, reseed := true }
        stuckExpiries := min (s.kq.stuckExpiries + 1) 65535 } ∧
      releaseTaken (.site site.val) (some .stuck) (0, 0) s t ∧
      (let shown := noticeWord .stuck ||| noticeIf (t.mlu.lockout != s.mlu.lockout) .lockout
       t.dlp.notices = s.dlp.notices ||| shown ∧ t.vp.notices = s.vp.notices ||| shown) ∧
      unchangedBut [.kq, .kr, .tq, .gq, .mlu, .notices, .slots, .pins] s t

/-! ### The gates and the router -/

/-- The offer set of a press, by gate: the live route, with FOLLOW giving the current source in a settled display; the tablet out, and
diverted to the gateway where the class says so, while the lockout is in effect; each master only while its port is deliverable (R69, R70,
R71). -/
def Obligations.OfferSetPassesTheThreeGates : Prop :=
  ∀ (s : State) (cls : Nat),
    let e := classEntry s.crm.live cls
    let steady := s.dss.settle = none
    let toTablet := e.route = .tablet ∨ e.route = .both ∨ (e.route = .follow ∧ steady ∧ s.dss.current = .tablet)
    let toGateway := e.route = .gateway ∨ e.route = .both ∨ (e.route = .follow ∧ steady ∧ s.dss.current = .gateway)
    let locked := (s.mlu.lockout = .engaging ∨ s.mlu.lockout = .engaged) ∧ e.exempt = false
    ((routeGate s e.route).tablet = true ↔ toTablet) ∧ ((routeGate s e.route).gateway = true ↔ toGateway) ∧
    ((gateThreeInput s cls).tablet = true ↔ toTablet ∧ ¬locked) ∧
    ((gateThreeInput s cls).gateway = true ↔ toGateway ∨ (locked ∧ toTablet ∧ e.divert = true)) ∧
    ((offerSet s cls).tablet = true ↔ (gateThreeInput s cls).tablet = true ∧ s.dlp.link = .up) ∧
    ((offerSet s cls).gateway = true ↔ (gateThreeInput s cls).gateway = true ∧ s.vp.online = true)

/-- A press-type event makes an entry owned by the masters whose queues admit its report, or, with 12 entries held, counts a rollover and
tells the masters of the offer set (R99, R100, R101, R110, R122, R126, R127). A release-kind event reaches every owner and ends the entry; one that
finds no entry reports nothing (R89, R104, R105, R110, R124). -/
def Obligations.PressesAndReleasesAreTakenWhole : Prop :=
  (∀ (p : Press) (s : State),
     pressTaken p s (takePress p s) ∧ unchangedBut [.kr, .tq, .gq, .notices, .slots] s (takePress p s) ∧
       (takePress p s).gq.headHeld = s.gq.headHeld) ∧
  (∀ (src : Source) (forced : Option Reason) (xy : Nat × Nat) (s : State),
     let t := takeRelease src forced xy s
     releaseTaken src forced xy s t ∧ lockoutNoticed s t ∧ unchangedBut [.kr, .tq, .gq, .mlu, .notices, .slots] s t)

/-- The number that the next entry is given is the first after the last one issued, 65,535 followed by 1, that no entry and no queued report
carries, and it is found within 61 tries (R97). The premises are invariants: the queue laws, and the last number at most 65,535. -/
def Obligations.NextSequenceNumberIsFree : Prop :=
  ∀ s : State, queueLaw s = true → s.kr.seq ≤ 65535 →
    (1 ≤ nextSeq s ∧ nextSeq s ≤ 65535) ∧
    (∀ e ∈ s.kr.table, e.seq ≠ nextSeq s) ∧ (∀ r ∈ s.tq.reports, r.seq ≠ nextSeq s) ∧
    (∀ r ∈ s.gq.reports, r.seq ≠ nextSeq s) ∧
    ∃ k, k ≤ 60 ∧ nextSeq s = (s.kr.seq + k) % 65535 + 1 ∧
      ∀ j, j < k → seqInUse s ((s.kr.seq + j) % 65535 + 1) = true

/-- Every offer keeps occupancy and reserved count within the capacity, and none drops or reorders a report that the queue holds; a move is
coalesced into a free tail of its own number and appended only with room (R118, R121 to R127). Taking up to n reports gives the oldest, in order,
and leaves the rest; draining ends, and the gap mark is due, when the occupancy falls to half or below at one of the removals (R128, R129). -/
def Obligations.QueuesOfferAndRemoveInOrder : Prop :=
  (∀ (q : Queue) (capacity : Nat) (r : Report), q.reports.length + q.reserved ≤ capacity →
     (let u := q.offerPress capacity r;
       u.1.reports.length + u.1.reserved ≤ capacity ∧ u.1 = afterPress true capacity r q ∧ u.2 = admitsPress capacity q) ∧
     (let u := q.offerRepeat capacity r;
       u.1.reports.length + u.1.reserved ≤ capacity ∧
         (q.draining = false → q.reports.length + q.reserved + 1 ≤ capacity →
           u = ({ q with reports := q.reports ++ [{ r with gap := q.gap }], gap := false }, true)) ∧
         (q.draining = true ∨ capacity < q.reports.length + q.reserved + 1 → u = (q, false))) ∧
     (1 ≤ q.reserved → (q.offerRelease r).reports.length + (q.offerRelease r).reserved ≤ capacity ∧
       q.offerRelease r = afterRelease true r q) ∧
     (let u := q.offerMove capacity r
       let merge :=
         (∃ tail, q.reports.getLast? = some tail ∧ tail.kind = .touchMove ∧ tail.seq = r.seq) ∧
           (q.headHeld = false ∨ q.reports.length ≠ 1);
       u.reports.length + u.reserved ≤ capacity ∧
         (∀ tail front, q.reports = front ++ [tail] → merge →
           u = { q with reports := front ++ [{ tail with body := r.body, time := r.time }] }) ∧
         (¬merge → q.reports.length + q.reserved + 1 ≤ capacity →
           u = { q with reports := q.reports ++ [{ r with gap := q.gap }], gap := false }) ∧
         (¬merge → capacity < q.reports.length + q.reserved + 1 → u = { q with moveDrops := min (q.moveDrops + 1) 65535 }))) ∧
  (∀ (q : Queue) (half n : Nat),
     let u := q.take half n
     let ends := q.draining && (1 ≤ n && 1 ≤ q.reports.length && q.reports.length - n ≤ half)
     u.2 = q.reports.take n ∧
       u.1 = { q with reports := q.reports.drop n, draining := q.draining && !ends, gap := q.gap || ends })

/-- The repeat timer's expiry offers a REPEAT of the candidate's entry to its owners, but not to the tablet for a class that the lockout
covers, counts each refusal, and restarts the timer with the interval (R111, R120, R125; from the expiry, log entry 3). -/
def Obligations.RepeatExpiryOffersARepeat : Prop :=
  ∀ (s : State) (tm : Timer) (n : Nat) (e : HeldEntry), s.held = false → s.kr.repeatTimer = some tm → tm.due s.clock = true →
    s.kr.candidate = some n → s.kr.table.find? (fun e => e.seq == n) = some e →
    let r : Report :=
      { kind := .repetition, seq := e.seq, time := s.clock, gap := false, body := .key e.code e.cls, reason := none }
    let toTablet := e.owners.tablet && !(s.mlu.lockout != .opened && !(classEntry s.crm.live e.cls).exempt)
    let byTablet := !s.tq.draining && s.tq.reports.length + s.tq.reserved + 1 ≤ 32
    let byGateway := !s.gq.draining && s.gq.reports.length + s.gq.reserved + 1 ≤ 16
    let drops := (if toTablet && !byTablet then 1 else 0) + (if e.owners.gateway && !byGateway then 1 else 0)
    ∃ t, exec .repeatExpiry s = .next t ∧
      t.tq = (if toTablet && byTablet then
        { s.tq with reports := s.tq.reports ++ [{ r with gap := s.tq.gap }], gap := false } else s.tq) ∧
      { t.gq with headHeld := s.gq.headHeld } = (if e.owners.gateway && byGateway then
        { s.gq with reports := s.gq.reports ++ [{ r with gap := s.gq.gap }], gap := false } else s.gq) ∧
      (s.kr.repeatDrops ≤ 65535 → t.kr = { s.kr with
        repeatTimer := some { start := (tm.start + tm.span) % 65536, span := s.kr.interval }
        repeatDrops := min (s.kr.repeatDrops + drops) 65535 }) ∧
      unchangedBut [.kr, .tq, .gq, .slots, .pins] s t

/-- While the lockout is in effect, no command puts a PRESS, a REPEAT or a TOUCH_DOWN of a class not exempt into the tablet queue: each such
report in it afterwards was in it before (R132). -/
def Obligations.LockoutAdmitsNoCoveredPress : Prop :=
  ∀ (c : Instr) (s t : State), exec c s = .next t → lockoutInEffect s = true →
    ∀ r ∈ t.tq.reports, (r.kind = .press ∨ r.kind = .touchDown ∨ r.kind = .repetition) →
      (∀ code cls, r.body = .key code cls → exemptClass s cls = false) →
      (∀ x y, r.body = .touch x y → exemptClass s 15 = false) → r ∈ s.tq.reports

/-- The source, code, class, number and press time of an entry are fixed, and an owner once gone stays gone: apart from the events that bring
presses, every entry held after a command was held before it, with those fields and at least those owners (R9, R96). -/
def Obligations.EntriesAreFixedAndOwnersOnlyLeave : Prop :=
  ∀ (c : Instr) (s t : State), exec c s = .next t →
    (∀ e ∈ t.kr.table,
      (∃ f ∈ s.kr.table, f.source = e.source ∧ f.code = e.code ∧ f.cls = e.cls ∧ f.seq = e.seq ∧ f.pressTime = e.pressTime ∧
        (e.owners.tablet = true → f.owners.tablet = true) ∧ (e.owners.gateway = true → f.owners.gateway = true)) ∨
      (e.pressTime = s.clock ∧ ((∃ g cs, c = .scanCompletion g cs) ∨ ∃ r, c = .touchReadComplete r)))

/-! ### The touch panel -/

/-- A read starts at the interrupt or in contact, 10 ms or more after the last one, and in FAULT at the retry time; outside those conditions
the command takes the interrupt's level alone (R145, R148). -/
def Obligations.TouchReadStartsWhenItMay : Prop :=
  ∀ (s : State) (level : Bool), s.held = false →
    let spaced := ∀ since, s.tpi.lastStart = some since → 10 ≤ elapsed s.clock since
    let may := s.tpi.reading = false ∧ s.sst.standby = false ∧
      (s.tpi.contact ≠ .fault → spaced ∧ (level = true ∨ s.tpi.contact = .down)) ∧
      (s.tpi.contact = .fault → dueTimer s.tpi.retry s.clock = true)
    ∃ t, exec (.touchReadStart level) s = .next t ∧ unchangedBut [.tpi, .slots, .pins] s t ∧
      (may → t.tpi = { s.tpi with interrupt := level, reading := true, lastStart := some s.clock, retry := none }) ∧
      (¬may → t.tpi = { s.tpi with interrupt := level })

/-- A sample acts on the contact: a contact-down as a press of class 15, a move of a changed position to each owner of the entry, a touch-up at the last
sample (R103, R123; the move's premise is the slots' law, which follows every command); a sample
takes a panel out of FAULT (R146, R147, R148). The third failed read in a row puts the panel into FAULT, with a forced touch-up of a contact, the touch
fault counter and TOUCH_FAULT for both masters; fewer only count, and in FAULT only the retry is set anew (R148). -/
def Obligations.TouchReadsMoveTheContactOrFail : Prop :=
  (∀ (s : State) (present : Bool) (xr yr : Count), s.held = false → s.tpi.reading = true →
     let xy := (scaleAxis xr.val s.tpi.cal.xmin s.tpi.cal.xmax, scaleAxis yr.val s.tpi.cal.ymin s.tpi.cal.ymax)
     let seen := { s.tpi with reading := false, failRun := 0, retry := none }
     ∃ t, exec (.touchReadComplete (.sample present xr yr)) s = .next t ∧
       (s.tpi.contact ≠ .down → present = false →
         t.tpi = { seen with contact := .none } ∧ unchangedBut [.tpi, .slots, .pins] s t) ∧
       (s.tpi.contact ≠ .down → present = true →
         t.tpi = { seen with contact := .down, last := some xy } ∧
           pressTaken { source := .touch, code := 0, cls := 15, time := s.clock, kind := .touchDown, body := .touch xy.1 xy.2 } s t ∧
           unchangedBut [.tpi, .kr, .tq, .gq, .notices, .slots, .pins] s t) ∧
       (s.tpi.contact = .down → present = true →
         t.tpi = { seen with last := some xy } ∧ t.kr = s.kr ∧ t.tq.reserved = s.tq.reserved ∧
           (s.tpi.last = some xy → t.tq = s.tq ∧ sameAt s t .gq) ∧
           (s.tpi.last ≠ some xy → s.kr.table.find? (fun e => e.source == .touch) = none → t.tq = s.tq ∧ sameAt s t .gq) ∧
           (s.tpi.last ≠ some xy → ∀ e, s.kr.table.find? (fun e => e.source == .touch) = some e →
             let r : Report :=
               { kind := .touchMove, seq := e.seq, time := s.clock, gap := false, body := .touch xy.1 xy.2, reason := none }
             t.tq = (if e.owners.tablet then s.tq.offerMove 32 r else s.tq) ∧
               (slotLaw s = true →
                 { t.gq with headHeld := s.gq.headHeld } = (if e.owners.gateway then s.gq.offerMove 16 r else s.gq))) ∧
           unchangedBut [.tpi, .tq, .gq, .slots, .pins] s t) ∧
       (s.tpi.contact = .down → present = false →
         t.tpi = { seen with contact := .none } ∧ releaseTaken .touch none (s.tpi.last.getD (0, 0)) s t ∧ lockoutNoticed s t ∧
           unchangedBut [.tpi, .kr, .tq, .gq, .mlu, .notices, .slots, .pins] s t)) ∧
  (∀ s : State, s.held = false → s.tpi.reading = true →
     ∃ t, exec (.touchReadComplete .noAck) s = .next t ∧
       (s.tpi.contact = .fault →
         t.tpi = { s.tpi with reading := false, retry := some { start := s.clock, span := 100 } } ∧
           unchangedBut [.tpi, .slots, .pins] s t) ∧
       (s.tpi.contact ≠ .fault → s.tpi.failRun < 2 →
         t.tpi = { s.tpi with reading := false, failRun := s.tpi.failRun + 1 } ∧ unchangedBut [.tpi, .slots, .pins] s t) ∧
       (s.tpi.contact ≠ .fault → s.tpi.failRun = 2 →
         t.tpi = { s.tpi with
           reading := false, contact := .fault, failRun := 3, faults := min (s.tpi.faults + 1) 65535
           retry := some { start := s.clock, span := 100 } } ∧
         (s.tpi.contact = .down → releaseTaken .touch (some .touch) (s.tpi.last.getD (0, 0)) s t) ∧
         (s.tpi.contact = .none → t.kr = s.kr ∧ t.tq = s.tq ∧ sameAt s t .gq ∧ t.mlu = s.mlu ∧ noticed .touchFault s t) ∧
         t.dlp.notices &&& noticeWord .touchFault ≠ 0 ∧ t.vp.notices &&& noticeWord .touchFault ≠ 0 ∧
         unchangedBut [.tpi, .kr, .tq, .gq, .mlu, .notices, .slots, .pins] s t))

/-! ### The lockout and the vehicle data -/

/-- The motion state by the speed rule with its hysteresis, and the park brake's say over a PARKED result; it is UNKNOWN after a full reset, and the
factory default asks for no park brake (R81, R82). -/
def Obligations.MotionFollowsSpeedAndBrake : Prop :=
  (State.reset.mlu.motion = .unknown ∧ factorySettings.params.brakeRequired = false) ∧
  ∀ (previous : Motion) (sig : Signals) (p : LockParams),
    let m := motionResult previous sig p
    let parks := ∃ v, sig.speed = some v ∧ (previous = .parked → v < p.son) ∧ (previous ≠ .parked → v ≤ p.soff)
    (m = .unknown ↔ sig.speed = none) ∧
    (m = .parked ↔ parks ∧ (p.brakeRequired = true → sig.brake = some true))

/-- The grace's expiry withdraws every covered entry from the tablet with a LOCKOUT forced release, and the lockout is ENGAGED (R90, R106). -/
def Obligations.GraceExpiryWithdrawsCoveredEntries : Prop :=
  ∀ (s : State) (tm : Timer), s.held = false → s.mlu.lockout = .engaging → s.mlu.graceTimer = some tm → tm.due s.clock = true →
    ∃ t, exec .graceExpiry s = .next t ∧ t.mlu = { s.mlu with lockout := .engaged, graceTimer := none } ∧
      withdrawn (fun e => !(classEntry s.crm.live e.cls).exempt) s t ∧ noticed .lockout s t ∧
      unchangedBut [.mlu, .kr, .tq, .notices, .slots, .pins] s t

/-- A staleness mark clears the received mark, or counts a mark without a frame; the fourth one in a row loses the last vehicle state, the speed and
every CAN-sourced signal, each lost signal is reported to its user, and the motion state is UNKNOWN (R75, R79, R81, R140, R202, R204; log entry 9 for
the order of the reports). The premise is the lockout's invariant. -/
def Obligations.FourthStaleMarkLosesTheVehicleData : Prop :=
  ∀ s : State, s.held = false → lockoutLaw s = true → s.mlu.stalenessMark.due s.clock = true →
    ∃ t, exec .stalenessMark s = .next t ∧
      t.mlu.stalenessMark = { start := (s.mlu.stalenessMark.start + s.mlu.stalenessMark.span) % 65536, span := 125 } ∧
      t.mlu.mode = s.mlu.mode ∧ t.mlu.params = s.mlu.params ∧ t.mlu.received = false ∧
      (s.mlu.received = true ∨ s.mlu.staleness ≠ 3 →
        t.mlu.staleness = (if s.mlu.received = false ∧ s.mlu.staleness < 4 then s.mlu.staleness + 1 else s.mlu.staleness) ∧
        t.mlu.signals = s.mlu.signals ∧ t.mlu.last = s.mlu.last ∧ t.mlu.motion = s.mlu.motion ∧ t.mlu.lockout = s.mlu.lockout ∧
        unchangedBut [.mlu, .slots, .pins] s t) ∧
      (s.mlu.received = false → s.mlu.staleness = 3 →
        t.mlu.staleness = 4 ∧ t.mlu.last = noSignals ∧ t.mlu.signals.speed = none ∧
        (s.axl.install.reverse = .can → t.mlu.signals.reverse = none) ∧
        (s.axl.install.ignition = .can → t.mlu.signals.ignition = none) ∧
        (s.axl.install.brake = .can → t.mlu.signals.brake = none) ∧ (s.axl.install.night = .can → t.mlu.signals.night = none) ∧
        t.mlu.signals = sourcedSignals t ∧ signalsReported s t ∧
        t.mlu.motion = .unknown ∧ lockoutFollows (s.mlu.mode != .off) s t) ∧
      unchangedBut [.mlu, .kfs, .dss, .tpi, .blr, .sst, .notices, .slots, .pins] s t

/-- A VEHICLE_STATE of four bytes, in a frame with its identifier, is the last vehicle state, renews the data, and moves the CAN-sourced signals, each
reported to its user where it changes (reverse to the display, ignition to the standby logic, night to the backlight: R75, R140, R153, R202, R204; log
entry 9 for their order), and then the motion state; of another length it is only counted, and so is a GATEWAY_COMMAND that is dropped (log entry 15:
one without a command code where no reply is in progress). A frame with neither identifier is ignored, and in HELD_OFF nothing is received: no
VEHICLE_STATE, no command of any code, none dropped. The identifier and the data field alone say what a frame is, whichever row brings it (log entry
4): a frame with a command's code and arguments is the same event in the command's row and in that of VEHICLE_STATE, and one without data at base + 1
is a command dropped (R77, R79, R83, R176, R177, R184, R211). -/
def Obligations.VehicleStateRenewsTheSignals : Prop :=
  (∀ (s : State) (h : CanHeader) (b0 b1 b2 b3 : Byte), s.held = false → s.vp.heldOff = false → addressed 0 h s → lockoutLaw s = true →
    let field := fun bit => if b3.toNat.testBit bit then some (b2.toNat.testBit bit) else none
    let speed := b0.toNat * 256 + b1.toNat
    let u : Signals := { speed := (if speed = 65535 then none else some speed), reverse := field 0, ignition := field 1, brake := field 2, night := field 3 }
    ∃ t, exec (.vehicleState { header := h, data := [b0, b1, b2, b3] }) s = .next t ∧ gatewayHeard s t ∧
      t.mlu.last = u ∧ t.mlu.staleness = 0 ∧ t.mlu.received = true ∧ t.mlu.signals.speed = u.speed ∧
      (s.axl.install.reverse = .can → t.mlu.signals.reverse = u.reverse) ∧
      (s.axl.install.ignition = .can → t.mlu.signals.ignition = u.ignition) ∧
      (s.axl.install.brake = .can → t.mlu.signals.brake = u.brake) ∧ (s.axl.install.night = .can → t.mlu.signals.night = u.night) ∧
      t.mlu.signals = sourcedSignals t ∧ signalsReported s t ∧
      t.mlu.motion = motionResult s.mlu.motion t.mlu.signals s.mlu.params ∧
      lockoutFollows (s.mlu.mode != .off && t.mlu.motion != .parked) s t ∧
      t.mlu.mode = s.mlu.mode ∧ t.mlu.params = s.mlu.params ∧ t.mlu.stalenessMark = s.mlu.stalenessMark ∧
      unchangedBut [.mlu, .kfs, .dss, .tpi, .blr, .sst, .notices, .port, .slots, .pins] s t) ∧
  (∀ (s : State) (h : CanHeader) (data : List Byte), s.held = false → s.vp.heldOff = false → addressed 0 h s → data.length ≠ 4 →
    ∃ t, exec (.vehicleState { header := h, data := data }) s = .next t ∧ gatewayHeard s t ∧
      t.vp.stateFormats = min (s.vp.stateFormats + 1) 65535 ∧
      t.vp.commandDrops = s.vp.commandDrops ∧ unchangedBut [.port, .vehicle, .slots, .pins] s t) ∧
  (∀ s : State, s.held = false → s.vp.heldOff = false →
    ∃ t, exec .gatewayCommandDropped s = .next t ∧ gatewayHeard s t ∧ t.vp.commandDrops = min (s.vp.commandDrops + 1) 65535 ∧
      t.vp.stateFormats = s.vp.stateFormats ∧ unchangedBut [.port, .vehicle, .slots, .pins] s t) ∧
  (∀ (s : State) (h : CanHeader), s.held = false → s.vp.heldOff = true ∨ (¬addressed 0 h s ∧ ¬addressed 1 h s) →
    (∀ data : List Byte, ∃ t, exec (.vehicleState { header := h, data := data }) s = .next t ∧ unchangedBut [.slots, .pins] s t) ∧
      (∀ k ∈ portCommands, ∀ args : List Byte, ∃ t, exec (k.2.2 (.vehiclePort h) args) s = .next t ∧ unchangedBut [.slots, .pins] s t) ∧
      ∀ (code : Byte) (args : List Byte),
        ∃ t, exec (.unknownCommand (.vehiclePort h) code args) s = .next t ∧ unchangedBut [.slots, .pins] s t) ∧
  (∀ (s : State) (h : CanHeader) (args : List Byte),
    (∀ k ∈ portCommands,
      exec (k.2.2 (.vehiclePort h) args) s = exec (.vehicleState { header := h, data := k.1 :: args }) s) ∧
    (∀ code : Byte, namesNoCommand .gateway code = true →
      exec (.unknownCommand (.vehiclePort h) code args) s = exec (.vehicleState { header := h, data := code :: args }) s) ∧
    (addressed 1 h s → exec (.vehicleState { header := h, data := [] }) s = exec .gatewayCommandDropped s)) ∧
  (∀ s : State, s.held = false → s.vp.heldOff = true →
    ∃ t, exec .gatewayCommandDropped s = .next t ∧ unchangedBut [.slots, .pins] s t)

/-- LOCKOUT_MODE sets the mode and takes the condition anew, and LOCKOUT_PARAMS sets the parameters and derives the motion state; both are refused
with LOCKED in ON_LOCKED and with RANGE for a field out of range: Son outside 10..1000, Soff above Son − 10, the grace outside 500..5000, the
requirement neither no nor yes (R83 to R86). Nothing else of the lockout unit changes. -/
def Obligations.LockoutModeAndParamsTakeEffect : Prop :=
  (∀ (h : CanHeader) (s : State) (code : Byte) (m : LockMode), gatewayAsks h s → s.mlu.mode ≠ .onLocked → code.toNat = modeCode m →
    ∃ t, exec (.lockoutMode (.vehiclePort h) [code]) s = .next t ∧ gatewayHeard s t ∧ t.mlu.mode = m ∧
      lockoutFollows (m != .off && s.mlu.motion != .parked) s t ∧
      gatewayAnswers 0x44#8 .ok [code, byte (lockoutCode t.mlu.lockout)] t ∧
      t.mlu = { s.mlu with mode := m, lockout := t.mlu.lockout, graceTimer := t.mlu.graceTimer } ∧
      unchangedBut [.mlu, .notices, .port, .slots, .pins] s t) ∧
  (∀ (h : CanHeader) (s : State) (code : Byte), gatewayAsks h s → s.mlu.mode = .onLocked ∨ 2 < code.toNat →
    ∃ t, exec (.lockoutMode (.vehiclePort h) [code]) s = .next t ∧ gatewayHeard s t ∧
      (code.toNat ≤ 2 → gatewayAnswers 0x44#8 .locked [2#8, byte (lockoutCode s.mlu.lockout)] t) ∧
      (2 < code.toNat → gatewayAnswers 0x44#8 .range [] t) ∧ unchangedBut [.port, .slots, .pins] s t) ∧
  (∀ (h : CanHeader) (s : State) (p : LockParams), gatewayAsks h s → lockoutLaw s = true → s.mlu.mode ≠ .onLocked → paramsInRange p = true →
    ∃ t, exec (.lockoutParams (.vehiclePort h) (paramsBytes p)) s = .next t ∧ gatewayHeard s t ∧
      t.mlu = { s.mlu with
        params := p, motion := motionResult s.mlu.motion s.mlu.signals p, lockout := t.mlu.lockout, graceTimer := t.mlu.graceTimer } ∧
      lockoutFollows (s.mlu.mode != .off && t.mlu.motion != .parked) s t ∧
      gatewayAnswers 0x45#8 .ok (paramsBytes p) t ∧
      unchangedBut [.mlu, .notices, .port, .slots, .pins] s t) ∧
  (∀ (h : CanHeader) (s : State) (args : List Byte), gatewayAsks h s → args.length = 7 →
    let field := fun i => (args.getD i 0#8).toNat
    let son := field 0 * 256 + field 1
    let soff := field 2 * 256 + field 3
    let grace := field 4 * 256 + field 5
    s.mlu.mode = .onLocked ∨ son < 10 ∨ 1000 < son ∨ son < soff + 10 ∨ grace < 500 ∨ 5000 < grace ∨ 1 < field 6 →
    ∃ t, exec (.lockoutParams (.vehiclePort h) args) s = .next t ∧ gatewayHeard s t ∧
      gatewayAnswers 0x45#8 (if s.mlu.mode = .onLocked then .locked else .range) [] t ∧
      unchangedBut [.port, .slots, .pins] s t)

/-! ### The vehicle port -/

/-- The silence timer's expiry, a bus-off and the hold-off's expiry: OFFLINE loses the gateway's entries and queue, an open edit and the display hold,
and the backlight follows the display (R152); a silence expiry leaves a reply in progress; a bus-off abandons both slots and any reply, and HELD_OFF
lasts 1000 ms; the rejoin makes a status due (R64, R113, R178, R179, R182; the operand of the silence expiry is log entry 7). -/
def Obligations.GatewayLossGoesOfflineAndRejoins : Prop :=
  (∀ (s : State) (tm : Timer) (onWire : Bool), s.held = false → s.vp.online = true → s.vp.silence = some tm → tm.due s.clock = true →
    ∃ t, exec (.silenceExpiry onWire) s = .next t ∧ t.vp.online = false ∧ t.vp.silence = none ∧ t.vp.heldOff = s.vp.heldOff ∧
      t.vp.holdOff = s.vp.holdOff ∧ portLost .gateway s t ∧ t.crm = { live := s.crm.live, shadow := none } ∧ t.dss.hold = false ∧
      t.dss.request = s.dss.request ∧ displayFollows s t ∧ t.vp.offlines = min (s.vp.offlines + 1) 65535 ∧
      t.vp.busOffs = s.vp.busOffs ∧ t.vp.mask = s.vp.mask ∧ t.vp.base = s.vp.base ∧ t.vp.rate = s.vp.rate ∧
      t.vp.stateFormats = s.vp.stateFormats ∧ t.vp.commandDrops = s.vp.commandDrops ∧ backlightFollows s t ∧
      segmentsDue t = segmentsDue s ∧ t.vp.reply.map Reply.resets = s.vp.reply.map Reply.resets ∧
      (onWire = false → t.vp.reportSlot = none) ∧
      (∀ d, s.vp.reportSlot = some d → onWire = true → t.vp.reportSlot = some d) ∧
      unchangedBut [.kr, .gq, .crm, .dss, .blr, .port, .vehicle, .slots, .pins] s t) ∧
  (∀ s : State, s.held = false → s.vp.heldOff = false → (s.vp.reply.all fun r => !r.resets) = true →
    ∃ t, exec .busOff s = .next t ∧ t.vp.heldOff = true ∧ t.vp.holdOff = some { start := s.clock, span := 1000 } ∧
      t.vp.online = false ∧ t.vp.reportSlot = none ∧ t.vp.controlSlot = none ∧ t.vp.reply = none ∧ t.gq.headHeld = false ∧
      t.vp.busOffs = min (s.vp.busOffs + 1) 65535 ∧ t.vp.mask = s.vp.mask ∧ t.vp.base = s.vp.base ∧ t.vp.rate = s.vp.rate ∧
      t.vp.stateFormats = s.vp.stateFormats ∧ t.vp.commandDrops = s.vp.commandDrops ∧
      (s.vp.online = true → t.vp.silence = none ∧ t.dss.request = s.dss.request ∧ backlightFollows s t ∧ portLost .gateway s t ∧ t.crm = { live := s.crm.live, shadow := none } ∧
        t.dss.hold = false ∧ displayFollows s t ∧ t.vp.offlines = min (s.vp.offlines + 1) 65535) ∧
      (s.vp.online = false → t.kr = s.kr ∧ sameAt s t .gq ∧ t.crm = s.crm ∧ t.dss = s.dss ∧ t.blr = s.blr ∧ t.vp.silence = s.vp.silence ∧ t.vp.offlines = s.vp.offlines) ∧
      unchangedBut [.kr, .gq, .crm, .dss, .blr, .port, .vehicle, .slots, .pins] s t) ∧
  (∀ (s : State) (tm : Timer), s.held = false → s.vp.holdOff = some tm → tm.due s.clock = true →
    ∃ t, exec .holdOffExpiry s = .next t ∧ t.vp.heldOff = false ∧ t.vp.holdOff = none ∧ t.vp.online = s.vp.online ∧
      t.vp.silence = s.vp.silence ∧ (t.vp.statusDue = true ∨ ∃ d, t.vp.controlSlot = some (.partStatus d)) ∧
      unchangedBut [.port, .slots, .pins] s t)

/-- A KEY_REPORT's completion removes the head it carried and loads the next report, its 11-byte record and then 00h, at base + 3 and in the flexible
data-rate format; a control frame's completion loads the next segment of the reply, at base + 2 in that format, or ends the reply and loads a status
that is due, at base + 4 in the classical format; a status mark makes one due, and in HELD_OFF it waits for the rejoin. The completion of a KEY_REPORT
that was handed over before a flush removes nothing, and frees the slot for the head of the queue as it stands (R128, R130, R131, R176, R182, R183,
R207, R210, R211). -/
def Obligations.TransmissionAdvancesTheSlots : Prop :=
  let status := fun s : State => ControlFrame.partStatus (sent s 4 .classical
    [byte (motionCode s.mlu.motion), byte (modeCode s.mlu.mode), byte (lockoutCode s.mlu.lockout), byte (pictureCode s.dss.current),
      byte ((if s.kq.guard.wet then 1 else 0) + (if s.vp.online then 2 else 0)), byte ((s.vp.notices &&& s.vp.mask).toNat / 256),
      byte (s.vp.notices &&& s.vp.mask).toNat, byte (causeCode s.sst.cause)])
  (∀ (s : State) (d : BusFrame) (r : Report) (rest : List Report), s.held = false → s.vp.heldOff = false →
    s.vp.reportSlot = some d → s.gq.headHeld = true → s.gq.reports = r :: rest →
    let ends := s.gq.draining && rest.length ≤ 8
    ∃ t, exec .keyReportTxComplete s = .next t ∧
      t.gq = { s.gq with
        reports := rest, draining := s.gq.draining && !ends, gap := s.gq.gap || ends, headHeld := !rest.isEmpty } ∧
      t.vp.reportSlot = rest.head?.map (fun r => sent s 3 .flexible (fieldBytes (reportRecord r) ++ [0#8])) ∧ unchangedBut [.gq, .slots, .pins] s t) ∧
  (∀ (s : State) (d : BusFrame), s.held = false → s.vp.heldOff = false → s.vp.reportSlot = some d → s.gq.headHeld = false →
    ∃ t, exec .keyReportTxComplete s = .next t ∧ t.gq = { s.gq with headHeld := !s.gq.reports.isEmpty } ∧
      t.vp.reportSlot = s.gq.reports.head?.map (fun r => sent s 3 .flexible (fieldBytes (reportRecord r) ++ [0#8])) ∧
      unchangedBut [.gq, .slots, .pins] s t) ∧
  (∀ (s : State) (f : ControlFrame) (seg : List Byte) (rest : List (List Byte)) (b : Bool), s.held = false →
    s.vp.heldOff = false → s.vp.controlSlot = some f → s.vp.reply = some { rest := seg :: rest, resets := b } →
    ∃ t, exec .controlTxComplete s = .next t ∧ t.vp.controlSlot = some (.segment (sent s 2 .flexible seg)) ∧
      t.vp.reply = some { rest := rest, resets := b } ∧ t.vp.statusDue = s.vp.statusDue ∧ unchangedBut [.slots, .pins] s t) ∧
  (∀ (s : State) (f : ControlFrame), s.held = false → s.vp.heldOff = false → s.vp.controlSlot = some f →
    s.vp.reply = none ∨ (s.vp.reply = some { rest := [], resets := false } ∧ ∃ d, f = .segment d) →
    ∃ t, exec .controlTxComplete s = .next t ∧ t.vp.reply = none ∧ t.vp.statusDue = false ∧
      t.vp.controlSlot = (if s.vp.statusDue then some (status s) else none) ∧
      unchangedBut [.slots, .pins] s t) ∧
  (∀ s : State, s.held = false → s.vp.heldOff = false → s.vp.statusMark.due s.clock = true →
    ∃ t, exec .statusMark s = .next t ∧
      t.vp.statusMark = { start := (s.vp.statusMark.start + s.vp.statusMark.span) % 65536, span := 1000 } ∧
      (s.vp.controlSlot.isSome = true ∨ s.vp.reply.isSome = true → t.vp.statusDue = true) ∧
      (s.vp.controlSlot = none → s.vp.reply = none → t.vp.controlSlot = some (status s)) ∧
      unchangedBut [.marks, .slots, .pins] s t) ∧
  (∀ s : State, s.held = false → s.vp.heldOff = true → s.vp.statusMark.due s.clock = true →
    ∃ t, exec .statusMark s = .next t ∧
      t.vp = { s.vp with
        statusDue := true
        statusMark := { start := (s.vp.statusMark.start + s.vp.statusMark.span) % 65536, span := 1000 } } ∧
      unchangedBut [.marks, .slots, .pins] s t)

/-- A raw level that changes restarts the line's debounce of 20 ms, and only a level that has held for it is debounced and reported; an AUX-sourced
signal takes the level of the line with its function and is reported to its user where it changes (R75, R140, R202, R204; log entry 9), and a changed
park brake derives the motion state and the lockout anew (R76, R78, R83, R88, R91, R188, R189). A change to the level that a line already has changes
nothing (log entry 22), and a line of any mode keeps its raw level (log entry 6). -/
def Obligations.AuxiliaryLinesAreDebounced : Prop :=
  (∀ (s : State) (i : LineIndex) (high : Bool) (l : Line) (n : LineSetup), s.held = false → s.axl.lines[i.val]? = some l →
    s.axl.install.lines[i.val]? = some n →
    ∃ t, exec (.auxLevelChange i high) s = .next t ∧ t.axl.install = s.axl.install ∧
      (l.raw = high → t.axl.lines = s.axl.lines) ∧
      (l.raw ≠ high → t.axl.lines = s.axl.lines.set i.val { l with
        raw := high
        timer := if n.mode = .inputHigh ∨ n.mode = .inputLow then some { start := s.clock, span := 20 } else none }) ∧
      unchangedBut [.axl, .slots, .pins] s t) ∧
  (∀ (s : State) (i : LineIndex) (l : Line) (n : LineSetup) (tm : Timer), s.held = false → s.axl.lines[i.val]? = some l →
    s.axl.install.lines[i.val]? = some n → l.timer = some tm → tm.due s.clock = true →
    let level := some (if n.mode = .inputLow then !l.raw else l.raw)
    let whole := functionsDistinct s.axl.install.lines = true ∧ (n.mode = .inputHigh ∨ n.mode = .inputLow)
    ∃ t, exec (.auxDebounceExpiry i) s = .next t ∧ t.axl.install = s.axl.install ∧
      t.axl.lines = s.axl.lines.set i.val { l with debounced := some l.raw, timer := none } ∧
      (l.debounced = some l.raw → unchangedBut [.axl, .slots, .pins] s t) ∧
      (l.debounced ≠ some l.raw → t.mlu.signals = sourcedSignals t ∧ signalsReported s t ∧
        t.mlu = { s.mlu with
          signals := t.mlu.signals, motion := t.mlu.motion, lockout := t.mlu.lockout, graceTimer := t.mlu.graceTimer } ∧
        (whole → n.function ≠ .brake ∨ s.axl.install.brake = .can → t.mlu.motion = s.mlu.motion) ∧
        (lockoutLaw s = true → lockoutFollows (s.mlu.mode != .off && t.mlu.motion != .parked) s t) ∧
        (whole → n.function = .reverse → s.axl.install.reverse = .aux → t.mlu.signals.reverse = level) ∧
        (whole → n.function = .ignition → s.axl.install.ignition = .aux → t.mlu.signals.ignition = level) ∧
        (whole → n.function = .brake → s.axl.install.brake = .aux →
          t.mlu.signals.brake = level ∧ t.mlu.motion = motionResult s.mlu.motion t.mlu.signals s.mlu.params) ∧
        (whole → n.function = .night → s.axl.install.night = .aux → t.mlu.signals.night = level)) ∧
      unchangedBut [.axl, .mlu, .kfs, .dss, .tpi, .blr, .sst, .notices, .slots, .pins] s t)

/-! ### The display and the backlight -/

/-- The settle's expiry makes the target the current source; a light gate counts pulses to 4095 and sets the target; each ramp mark moves the level
by at most 4, and the mark at a gate's end goes first (R137, R141, R151, R152, R153; log entry 20). -/
def Obligations.DisplaySettlesAndBacklightRamps : Prop :=
  let target := fun t : State =>
    if t.dss.current = .blank ∨ t.dss.target = .blank ∨ t.sst.standby = true then 0
    else min (max (min (16 + t.blr.light / 16) 255 * t.blr.gain / 128) 8) (if t.mlu.signals.night = some true then t.blr.nightCap else 255)
  let step := fun level aim : Nat => if level < aim then min (level + 4) aim else max (level - 4) aim
  (∀ (s : State) (tm : Timer), s.held = false → s.dss.settle = some tm → tm.due s.clock = true →
    ∃ t, exec .settleExpiry s = .next t ∧ t.dss = { s.dss with current := s.dss.target, settle := none } ∧
      t.blr = { s.blr with target := target t } ∧ noticed .display s t ∧ unchangedBut [.dss, .blr, .notices, .slots, .pins] s t) ∧
  (∀ s : State, s.held = false → ∃ t, exec .lightPulse s = .next t ∧
    t.blr = { s.blr with gateCount := min (s.blr.gateCount + 1) 4095 } ∧ unchangedBut [.blr, .slots, .pins] s t) ∧
  (∀ s : State, s.held = false → s.blr.gateEnd.due s.clock = true →
    let mark := s.blr.rampMark.expiry = s.blr.gateEnd.expiry
    ∃ t, exec .lightGateEnd s = .next t ∧ t.blr.light = s.blr.gateCount ∧ t.blr.gateCount = 0 ∧
      t.blr.gateEnd = { start := s.blr.gateEnd.expiry, span := 100 } ∧ t.blr.target = target t ∧
      (mark → t.blr.level = step s.blr.level s.blr.target ∧ t.blr.rampMark = { start := s.blr.rampMark.expiry, span := 20 }) ∧
      (¬mark → t.blr.level = s.blr.level ∧ t.blr.rampMark = s.blr.rampMark) ∧ t.blr.gain = s.blr.gain ∧
      t.blr.nightCap = s.blr.nightCap ∧ unchangedBut [.blr, .slots, .pins] s t) ∧
  (∀ s : State, s.held = false → s.blr.rampMark.due s.clock = true →
    ∃ t, exec .rampMark s = .next t ∧ t.blr = { s.blr with
        level := step s.blr.level s.blr.target, rampMark := { start := s.blr.rampMark.expiry, span := 20 } } ∧
      unchangedBut [.blr, .slots, .pins] s t)

/-- REQUEST_DISPLAY, DISPLAY_HOLD and NIGHT_CAP: the request and the hold move the display before the reply, the cap drops a higher level at once
while night is asserted, the backlight's target is computed anew with the display and with the cap (R152), and a field out of range is refused with
RANGE (R139, R142, R143, R153, R155). -/
def Obligations.DisplayCommandsMoveThePicture : Prop :=
  let shown := fun (t : State) (on : Bool) =>
    [flag on, byte (pictureCode t.dss.current), byte (pictureCode t.dss.target), flag t.dss.settle.isSome]
  (∀ (s : State) (rest : List Frame) (on : Bool), dockAsks 0x16#8 [flag on] rest s →
    ∃ t, exec (.requestDisplay .dockLink [flag on]) s = .next t ∧ t.dss.request = on ∧ t.dss.hold = s.dss.hold ∧ displayFollows s t ∧
      dockAnswers 0x16#8 rest .ok (shown t on) t ∧ backlightFollows s t ∧
      unchangedBut [.dss, .blr, .dockWire, .slots, .pins] s t) ∧
  (∀ (h : CanHeader) (s : State) (on : Bool), gatewayAsks h s →
    ∃ t, exec (.displayHold (.vehiclePort h) [flag on]) s = .next t ∧ gatewayHeard s t ∧ t.dss.hold = on ∧ t.dss.request = s.dss.request ∧
      displayFollows s t ∧ gatewayAnswers 0x46#8 .ok (shown t on) t ∧ backlightFollows s t ∧
      unchangedBut [.dss, .blr, .port, .slots, .pins] s t) ∧
  (∀ (h : CanHeader) (s : State) (cap : Byte), gatewayAsks h s → 8 ≤ cap.toNat →
    let inForce := if s.mlu.signals.night = some true then cap.toNat else 255
    ∃ t, exec (.nightCap (.vehiclePort h) [cap]) s = .next t ∧ gatewayHeard s t ∧
      t.blr = { s.blr with nightCap := cap.toNat, level := min s.blr.level inForce, target := backlightAsked t } ∧ t.blr.target ≤ inForce ∧
      gatewayAnswers 0x47#8 .ok [cap, byte inForce, byte t.blr.level] t ∧ unchangedBut [.blr, .port, .slots, .pins] s t) ∧
  (∀ (s : State) (rest : List Frame) (v : Byte), 2 ≤ v.toNat → dockAsks 0x16#8 [v] rest s →
    ∃ t, exec (.requestDisplay .dockLink [v]) s = .next t ∧ dockAnswers 0x16#8 rest .range [] t ∧
      unchangedBut [.dockWire, .slots, .pins] s t) ∧
  (∀ (h : CanHeader) (s : State) (v : Byte), gatewayAsks h s →
    (2 ≤ v.toNat → ∃ t, exec (.displayHold (.vehiclePort h) [v]) s = .next t ∧ gatewayAnswers 0x46#8 .range [] t ∧
      unchangedBut [.port, .slots, .pins] s t) ∧
    (v.toNat < 8 → ∃ t, exec (.nightCap (.vehiclePort h) [v]) s = .next t ∧ gatewayAnswers 0x47#8 .range [] t ∧
      unchangedBut [.port, .slots, .pins] s t))

/-! ### The dock link -/

/-- TPRES and the settle: ABSENT goes to SETTLING with 250 ms and out of STANDBY, a rattle stops the drop timer, a fall starts it with 50 ms, and
the settle's expiry makes the link WAITING with the receiver hunting (R159, R160, R202, R204). -/
def Obligations.PresenceBringsTheLinkUp : Prop :=
  (∀ s : State, s.held = false → s.dlp.tpres = false →
    let settles := s.dlp.link = .absent ∨ s.dlp.link = .settling
    ∃ t, exec .tpresAsserted s = .next t ∧
      (settles → t.dlp = { s.dlp with
        tpres := true, dropTimer := none, link := .settling, settleTimer := some { start := s.clock, span := 250 } }) ∧
      (¬settles → t.dlp = { s.dlp with tpres := true, dropTimer := none }) ∧
      t.sst = { s.sst with standby := false, standbyTimer := none } ∧
      (s.sst.standby = true → leftStandby s t ∧ displayFollows s t ∧ t.kfs = { s.kfs with standbyScan := false } ∧
        t.tpi = { s.tpi with retry := t.tpi.retry } ∧ t.blr = { s.blr with target := backlightAsked t }) ∧
      (s.sst.standby = false → unchangedBut [.sst, .link, .slots, .pins] s t) ∧
      unchangedBut [.sst, .kfs, .dss, .tpi, .blr, .link, .slots, .pins] s t) ∧
  (∀ s : State, s.held = false → s.dlp.tpres = true →
    ∃ t, exec .tpresDeasserted s = .next t ∧
      t.dlp = { s.dlp with
        tpres := false
        dropTimer := if s.dlp.link = .absent then s.dlp.dropTimer else some { start := s.clock, span := 50 }
        settleTimer := if s.dlp.link = .settling then none else s.dlp.settleTimer } ∧
      unchangedBut [.link, .slots, .pins] s t) ∧
  (∀ (s : State) (tm : Timer), s.held = false → s.dlp.link = .settling → s.dlp.settleTimer = some tm → tm.due s.clock = true →
    ∃ t, exec .presenceSettleExpiry s = .next t ∧
      t.dlp = { s.dlp with link := .waiting, settleTimer := none, assembly := none } ∧ unchangedBut [.link, .receiver, .slots, .pins] s t)

/-- The drop timer's expiry and RESET_PORT: a tablet port reset, into ABSENT with the standby condition taken (the one part of the settings store that
changes), or into WAITING with the reply OK; the stale timer's expiry keeps the tablet's entries and queue (R160, R161, R162, R174, R202). -/
def Obligations.DropAndResetPortLoseTheTablet : Prop :=
  (∀ (s : State) (tm : Timer), s.held = false → s.dlp.dropTimer = some tm → tm.due s.clock = true →
    ∃ t, exec .presenceDropExpiry s = .next t ∧ tabletPortWasReset s t ∧ t.dlp.link = .absent ∧ t.dlp.dropTimer = none ∧
      t.dlp.settleTimer = none ∧ t.dlp.reply = none ∧ t.dlp.tpres = s.dlp.tpres ∧
      t.sst = { s.sst with standbyTimer := if s.sst.standby = true then s.sst.standbyTimer else standbyTimerTaken s t } ∧
      unchangedBut [.mlu, .kr, .tq, .dss, .blr, .link, .receiver, .dockWire, .notices, .sst, .slots, .pins] s t) ∧
  (∀ (s : State) (rest : List Frame), dockAsks 0x06#8 [] rest s →
    ∃ t, exec (.resetPort .dockLink []) s = .next t ∧ tabletPortWasReset s t ∧ t.dlp.link = .waiting ∧
      t.dlp.dropTimer = s.dlp.dropTimer ∧ t.dlp.settleTimer = s.dlp.settleTimer ∧ t.dlp.tpres = s.dlp.tpres ∧
      dockAnswers 0x06#8 [] .ok [] t ∧
      unchangedBut [.mlu, .kr, .tq, .dss, .blr, .link, .receiver, .dockWire, .notices, .slots, .pins] s t) ∧
  (∀ (s : State) (tm : Timer), s.held = false → s.dlp.link = .up → s.dlp.staleTimer = some tm → tm.due s.clock = true →
    ∃ t, exec .staleExpiry s = .next t ∧ t.dlp = { s.dlp with link := .stale, staleTimer := none } ∧
      (s.dss.target = desiredPicture s → t.dss = s.dss ∧ t.blr = s.blr) ∧
      displayFollows s t ∧ t.dss.request = s.dss.request ∧ t.dss.hold = s.dss.hold ∧ backlightFollows s t ∧
      unchangedBut [.link, .dss, .blr, .slots, .pins] s t)

/-- Entry into STANDBY: the scans slow down at the next start, the display is BLANK unless reverse is asserted, and the touch panel stops, with a
forced touch-up of a contact (R14, R138, R150, R202, R203). -/
def Obligations.StandbyEntryQuietsThePart : Prop :=
  ∀ (s : State) (tm : Timer), s.held = false → s.sst.standby = false → s.sst.standbyTimer = some tm → tm.due s.clock = true →
    ∃ t, exec .standbyTimerExpiry s = .next t ∧ t.sst = { s.sst with standby := true, standbyTimer := none } ∧
      t.kfs = { s.kfs with standbyScan := true } ∧ displayFollows s t ∧
      t.dss.target = (if s.mlu.signals.reverse = some true then .gateway else .blank) ∧ t.blr.target = 0 ∧
      t.blr.level = s.blr.level ∧ t.tpi.reading = false ∧
      (s.tpi.contact = .down → t.tpi.contact = .none ∧ t.tpi.failRun = 0 ∧
        releaseTaken .touch (some .touch) (s.tpi.last.getD (0, 0)) s t) ∧
      (s.tpi.contact = .none → t.tpi.contact = .none ∧ t.tpi.failRun = 0) ∧
      (s.tpi.contact = .fault → t.tpi.contact = .fault ∧ t.tpi.retry = none) ∧
      (s.tpi.contact ≠ .down → t.kr = s.kr ∧ t.tq = s.tq ∧ t.mlu = s.mlu) ∧ lockoutNoticed s t ∧
      unchangedBut [.sst, .kfs, .dss, .blr, .tpi, .kr, .tq, .gq, .mlu, .notices, .slots, .pins] s t

/-- Every frame that the format can carry is received whole: with the receiver hunting and room in the buffer, the bytes of the frame of any type and
any payload of up to 128 bytes add just that frame to the buffer, and the link is UP, with the display and the backlight after it (R140, R152, R161,
R164, R165, R166; log entry 13 for the bytes of a frame within one millisecond). -/
def Obligations.EveryFrameSentIsReceived : Prop :=
  ∀ (s : State) (type : Byte) (payload : List Byte), s.held = false → receiving s = true → s.dlp.assembly = none →
    payload.length ≤ 128 → bytesHeld s.dlp + payload.length + 4 ≤ 256 →
    ∃ t, exec (.dockFrameReceived type payload) s = .next t ∧
      t.dlp = { s.dlp with
        quiet := 0, frames := s.dlp.frames ++ [{ type := type, payload := payload }], link := .up
        staleTimer := some { start := s.clock, span := 1000 } } ∧
      (s.dlp.link = .up → t.dss = s.dss) ∧
      (s.dlp.link ≠ .up → t.dss.request = true ∧ t.dss.hold = s.dss.hold ∧ displayFollows s t) ∧ backlightFollows s t ∧
      unchangedBut [.link, .receiver, .dockWire, .dss, .blr, .slots, .pins] s t

/-- In ABSENT and SETTLING a byte is discarded and not counted (R165). Elsewhere a byte that spoils a frame discards it and counts the cause: an
overrun, a gap of more than 5 ms, a LENGTH above 128, a CRC mismatch; the byte whose CRC matches puts the frame into the buffer and the link is UP,
with the display and the backlight after it (R140, R152); any other byte goes into the frame in assembly, and a byte hunted through leaves no trace
(R161, R165, R166). A gap is looked at before the room in the buffer, which the discarded bytes have then left (log entry 13); 6 ticks since the last
byte are a gap, fewer than 5 are none, and at 5 the operand says (log entry 7). -/
def Obligations.SpoiledFramesAreDiscardedAndCounted : Prop :=
  ∀ (s : State) (b : Byte) (afterGap : Bool), s.held = false →
    let c := Instr.dockLinkByteReceived b afterGap
    let gap := 6 ≤ s.dlp.quiet ∨ (s.dlp.quiet = 5 ∧ afterGap = true)
    let hunted := if b = 0xA5#8 then some [b] else none
    let now := { s.dlp with quiet := 0 }
    let leaves := fun d : Dlp => ∃ t, exec c s = .next t ∧ t.dlp = d ∧ unchangedBut [.receiver, .slots, .pins] s t
    (receiving s = false → ∃ t, exec c s = .next t ∧ unchangedBut [.slots, .pins] s t) ∧
    (receiving s = true → s.dlp.assembly = none ∨ ¬gap → 256 ≤ bytesHeld s.dlp →
      leaves { now with assembly := none, overruns := min (s.dlp.overruns + 1) 65535 }) ∧
    (receiving s = true → s.dlp.assembly = none → bytesHeld s.dlp < 256 → leaves { now with assembly := hunted }) ∧
    (∀ bytes, receiving s = true → s.dlp.assembly = some bytes → gap →
      let left := { now with assembly := none, gapErrors := min (s.dlp.gapErrors + 1) 65535 }
      (256 ≤ bytesHeld left → leaves { left with overruns := min (s.dlp.overruns + 1) 65535 }) ∧
      (bytesHeld left < 256 → leaves { left with assembly := hunted })) ∧
    (∀ bytes, receiving s = true → s.dlp.assembly = some bytes → ¬gap → bytesHeld s.dlp < 256 →
      let last := 3 ≤ bytes.length ∧ bytes.length = 3 + (bytes.getD 1 0#8).toNat
      (bytes.length = 1 → 128 < b.toNat → leaves { now with assembly := none, lengthErrors := min (s.dlp.lengthErrors + 1) 65535 }) ∧
      (last → crc8 (bytes.drop 1) ≠ b → leaves { now with assembly := none, crcErrors := min (s.dlp.crcErrors + 1) 65535 }) ∧
      (last → crc8 (bytes.drop 1) = b → ∃ t, exec c s = .next t ∧
        t.dlp = { now with
          assembly := none, frames := s.dlp.frames ++ [{ type := bytes.getD 2 0#8, payload := bytes.drop 3 }], link := .up
          staleTimer := some { start := s.clock, span := 1000 } } ∧
        (s.dlp.link = .up → t.dss = s.dss) ∧
        (s.dlp.link ≠ .up → t.dss.request = true ∧ t.dss.hold = s.dss.hold ∧ displayFollows s t) ∧ backlightFollows s t ∧
        unchangedBut [.link, .receiver, .dockWire, .dss, .blr, .slots, .pins] s t) ∧
      (¬(bytes.length = 1 ∧ 128 < b.toNat) → ¬last → leaves { now with assembly := some (bytes ++ [b]) }))

/-! ### Reading the part -/

/-- GET_REPORTS takes the oldest reports, up to the maximum asked, out of the queue and into the reply, each as its 11-byte record: kind, gap, sequence,
time, code and class or x and y, reason; a maximum outside 1..8 is refused with RANGE (R128, R129, R171, R207). GET_STATUS, GET_COUNTERS, GET_SNAPSHOT and STATUS_REQUEST answer with their records, field by field in the order and width of the
format, and change nothing; a part that does not exist is RANGE, and a snapshot before the first completion is STATE (R50, R172, R173, R185, R205, R207,
R209). -/
def Obligations.ReadingCommandsAnswerWithTheirRecords : Prop :=
  (∀ (s : State) (rest : List Frame) (max : Byte), dockAsks 0x01#8 [max] rest s →
     let given := s.tq.reports.take max.toNat
     let left := s.tq.reports.drop max.toNat
     let ends := s.tq.draining && (!given.isEmpty && left.length ≤ 16)
     ∃ t, exec (.getReports .dockLink [max]) s = .next t ∧
       (1 ≤ max.toNat ∧ max.toNat ≤ 8 →
         t.tq = { s.tq with reports := left, draining := s.tq.draining && !ends, gap := s.tq.gap || ends } ∧
         dockAnswers 0x01#8 rest .ok (byte given.length :: given.flatMap fun r => fieldBytes (reportRecord r)) t ∧
         unchangedBut [.tq, .dockWire, .slots, .pins] s t) ∧
       (max.toNat = 0 ∨ 8 < max.toNat → dockAnswers 0x01#8 rest .range [] t ∧ unchangedBut [.dockWire, .slots, .pins] s t)) ∧
  ((∀ (s : State) (rest : List Frame) (part : Byte), dockAsks 0x02#8 [part] rest s →
     ∃ t, exec (.getStatus .dockLink [part]) s = .next t ∧ unchangedBut [.dockWire, .slots, .pins] s t ∧
       (∀ record, [generalRecord s, routesRecord s, heldRecord s, vehicleRecord s, displayRecord s][part.toNat]? = some record →
         dockAnswers 0x02#8 rest .ok (fieldBytes record) t) ∧
       (5 ≤ part.toNat → dockAnswers 0x02#8 rest .range [] t)) ∧
   (∀ (s : State) (rest : List Frame), dockAsks 0x03#8 [] rest s →
     ∃ t, exec (.getCounters .dockLink []) s = .next t ∧ unchangedBut [.dockWire, .slots, .pins] s t ∧
       dockAnswers 0x03#8 rest .ok (fieldBytes ((counters s).map fun n => (2, n))) t) ∧
   (∀ (s : State) (rest : List Frame), dockAsks 0x1C#8 [] rest s →
     ∃ t, exec (.getSnapshot .dockLink []) s = .next t ∧ unchangedBut [.dockWire, .slots, .pins] s t ∧
       (s.kq.snapshot = none → dockAnswers 0x1C#8 rest .state [] t) ∧
       (∀ n, s.kq.snapshot = some n → dockAnswers 0x1C#8 rest .ok (fieldBytes (snapshotRecord n)) t)) ∧
   (∀ (h : CanHeader) (s : State) (part : Byte), gatewayAsks h s → s.crm.live.length = 16 →
     ∃ t, exec (.statusRequest (.vehiclePort h) [part]) s = .next t ∧ gatewayHeard s t ∧ unchangedBut [.port, .slots, .pins] s t ∧
       (∀ record,
         [requestRecord s, requestVehicleRecord s, requestPictureRecord s, (counters s).map fun n => (2, n)][part.toNat]? = some record →
         gatewayAnswers 0x49#8 .ok (fieldBytes record) t) ∧
       (4 ≤ part.toNat → gatewayAnswers 0x49#8 .range [] t)) ∧
   (∀ s : State, s.crm.live.length = 16 → s.axl.install.lines.length = 4 → s.axl.lines.length = 4 →
     (fieldBytes (generalRecord s)).length = 25 ∧ (fieldBytes (routesRecord s)).length = 33 ∧
     (fieldBytes (heldRecord s)).length = 8 + 8 * s.kr.table.length ∧ (fieldBytes (vehicleRecord s)).length = 21 ∧
     (fieldBytes (displayRecord s)).length = 25 ∧ (fieldBytes (requestRecord s)).length = 37 ∧
     (fieldBytes (requestVehicleRecord s)).length = 33 ∧ (fieldBytes (requestPictureRecord s)).length = 19 ∧
     (fieldBytes ((counters s).map fun n => (2, n))).length = 38) ∧
   (∀ n : Snapshot, (fieldBytes (snapshotRecord n)).length = 14) ∧
   (∀ r : Report, (fieldBytes (reportRecord r)).length = 11))

/-- A reply's segments: each of 12 bytes with the code, its number and the mark on the last; the status in the first, and the payload in order
across them, 8 bytes in the first and 9 in each later one (R183, R210). -/
def Obligations.ReplySegmentsCarryThePayload : Prop :=
  ∀ (code : Byte) (status : Status) (payload : List Byte), payload.length ≤ 143 →
    let segs := replySegments code status payload
    segs.length = 1 + (payload.length - 8 + 8) / 9 ∧
    (∀ (i : Nat) (seg : List Byte), segs[i]? = some seg →
      seg.length = 12 ∧ seg.getD 0 0#8 = code ∧ seg.getD 1 0#8 = byte i ∧
        seg.getD 2 0#8 = (if i + 1 = segs.length then 1#8 else 0#8) ∧
        (i = 0 → seg.getD 3 0#8 = byte (statusCode status) ∧ (seg.drop 4).take payload.length = payload.take 8) ∧
        (1 ≤ i → (seg.drop 3).take (payload.length - (9 * i - 1)) = (payload.drop (9 * i - 1)).take 9))

/-- CLEAR_NOTICES and SET_NOTICE_MASK on either port act on that port's notices alone and answer with the notices shown; a mask that names a notice
that does not exist is RANGE (R170, R186). -/
def Obligations.NoticeCommandsActOnTheirOwnPort : Prop :=
  ∀ (s : State) (hi lo : Byte),
    let w : NoticeWord := hi ++ lo
    let exist := hi.toNat < 32
    (∀ rest, dockAsks 0x04#8 [hi, lo] rest s →
      ∃ t, exec (.clearNotices .dockLink [hi, lo]) s = .next t ∧
        (exist → t.dlp.notices = s.dlp.notices &&& ~~~w ∧ t.vp.notices = s.vp.notices ∧
          dockAnswers 0x04#8 rest .ok (word (s.dlp.notices &&& ~~~w &&& s.dlp.mask).toNat) t ∧
          unchangedBut [.notices, .dockWire, .slots, .pins] s t) ∧
        (¬exist → dockAnswers 0x04#8 rest .range [] t ∧ unchangedBut [.dockWire, .slots, .pins] s t)) ∧
    (∀ rest, dockAsks 0x05#8 [hi, lo] rest s →
      ∃ t, exec (.setNoticeMask .dockLink [hi, lo]) s = .next t ∧
        (exist → t.dlp = { s.dlp with mask := w, frames := rest, reply := t.dlp.reply } ∧
          dockAnswers 0x05#8 rest .ok (word (s.dlp.notices &&& w).toNat) t ∧
          unchangedBut [.link, .dockWire, .slots, .pins] s t) ∧
        (¬exist → dockAnswers 0x05#8 rest .range [] t ∧ unchangedBut [.dockWire, .slots, .pins] s t)) ∧
    (∀ h, gatewayAsks h s →
      ∃ t, exec (.clearNotices (.vehiclePort h) [hi, lo]) s = .next t ∧ gatewayHeard s t ∧
        (exist → t.vp.notices = s.vp.notices &&& ~~~w ∧ t.dlp.notices = s.dlp.notices ∧
          gatewayAnswers 0x04#8 .ok (word (s.vp.notices &&& ~~~w &&& s.vp.mask).toNat) t ∧
          unchangedBut [.notices, .port, .slots, .pins] s t) ∧
        (¬exist → gatewayAnswers 0x04#8 .range [] t ∧ unchangedBut [.port, .slots, .pins] s t)) ∧
    (∀ h, gatewayAsks h s →
      ∃ t, exec (.setNoticeMask (.vehiclePort h) [hi, lo]) s = .next t ∧ gatewayHeard s t ∧
        (exist → t.vp.mask = w ∧ t.vp.stateFormats = s.vp.stateFormats ∧ t.vp.commandDrops = s.vp.commandDrops ∧
          t.vp.busOffs = s.vp.busOffs ∧ t.vp.offlines = s.vp.offlines ∧ t.vp.base = s.vp.base ∧ t.vp.rate = s.vp.rate ∧
          gatewayAnswers 0x05#8 .ok (word (s.vp.notices &&& w).toNat) t ∧
          (s.vp.notices &&& s.vp.mask = 0 → s.vp.notices &&& w ≠ 0 → t.vp.statusDue = true) ∧
          unchangedBut [.vehicle, .port, .slots, .pins] s t) ∧
        (¬exist → gatewayAnswers 0x05#8 .range [] t ∧ unchangedBut [.port, .slots, .pins] s t))

/-! ### The class map -/

/-- SET_ROUTE writes route and repeat of one live entry and nothing else of it, and the candidate is chosen again where repeat changed; its checks
come in order: RANGE, BUSY, LOCKED, ILLEGAL (R56, R57, R60; after the configuration lock, R199). ROUTE writes all five fields of an entry, of the
shadow map while an edit is open and of the live map otherwise, where a class that loses its exempt field while ENGAGED has its entries withdrawn; a
live map that changes in repeat has the candidate chosen again first, and then one that changes in exempt is taken by the lockout (log entry 9);
ILLEGAL answers with the entry as it stands, and a field out of range is refused with RANGE (R58, R59, R60, R61). -/
def Obligations.RouteCommandsWriteTheClassMap : Prop :=
  (∀ (s : State) (rest : List Frame) (cls route rep : Byte), dockAsks 0x10#8 [cls, route, rep] rest s → s.sst.configLock = false →
     s.crm.live.length = 16 →
     let e := classEntry s.crm.live cls.toNat
     let inRange := cls.toNat ≤ 15 ∧ route.toNat ≤ 4 ∧ rep.toNat ≤ 1
     let legal := cls.toNat ≠ 15 ∨ ((route.toNat = 0 ∨ route.toNat = 4) ∧ rep.toNat = 0)
     ∃ t, exec (.setRoute .dockLink [cls, route, rep]) s = .next t ∧
       (inRange → s.crm.shadow = none → e.locked = false → legal →
         ∃ r, routeCode r = route.toNat ∧
           t.crm = { live := s.crm.live.set cls.toNat { e with route := r, repeats := rep.toNat == 1 }, shadow := none } ∧
           dockAnswers 0x10#8 rest .ok [] t ∧ t.kr.table = s.kr.table ∧ t.kr.seq = s.kr.seq ∧ routerKept s t ∧
           (e.repeats = (rep.toNat == 1) → t.kr = s.kr) ∧ (e.repeats ≠ (rep.toNat == 1) → candidateFollows s t) ∧
           unchangedBut [.crm, .kr, .dockWire, .slots, .pins] s t) ∧
       (¬(inRange ∧ s.crm.shadow = none ∧ e.locked = false ∧ legal) →
         dockAnswers 0x10#8 rest
           (if ¬inRange then .range else if s.crm.shadow.isSome then .busy else if e.locked then .locked else .illegal) [] t ∧
         unchangedBut [.dockWire, .slots, .pins] s t)) ∧
  (∀ (h : CanHeader) (s : State) (cls route rep exempt divert locked : Byte), gatewayAsks h s →
     15 < cls.toNat ∨ 4 < route.toNat ∨ 1 < rep.toNat ∨ 1 < exempt.toNat ∨ 1 < divert.toNat ∨ 1 < locked.toNat →
     ∃ t, exec (.route (.vehiclePort h) [cls, route, rep, exempt, divert, locked]) s = .next t ∧ gatewayHeard s t ∧
       gatewayAnswers 0x40#8 .range [] t ∧ unchangedBut [.port, .slots, .pins] s t) ∧
  (∀ (h : CanHeader) (s : State) (cls : Byte) (e : ClassEntry), gatewayAsks h s → s.crm.live.length = 16 → cls.toNat ≤ 15 →
     let old := classEntry s.crm.live cls.toNat
     let legal := cls.toNat ≠ 15 ∨ ((e.route = .follow ∨ e.route = .none) ∧ e.repeats = false)
     let args := [cls, byte (routeCode e.route), flag e.repeats, flag e.exempt, flag e.divert, flag e.locked]
     let shown := fun (opened : Bool) (k : ClassEntry) => [cls, flag opened, byte (routeCode k.route), byte (classFlagsCode k)]
     ∃ t, exec (.route (.vehiclePort h) args) s = .next t ∧ gatewayHeard s t ∧
       (∀ m, s.crm.shadow = some m → legal → m.length = 16 →
         t.crm = { live := s.crm.live, shadow := some (m.set cls.toNat e) } ∧ gatewayAnswers 0x40#8 .ok (shown true e) t ∧
         unchangedBut [.crm, .port, .slots, .pins] s t) ∧
       (legal → s.crm.shadow = none →
         t.crm = { live := s.crm.live.set cls.toNat e, shadow := none } ∧ gatewayAnswers 0x40#8 .ok (shown false e) t ∧
         (e.repeats ≠ old.repeats ∧ e.exempt = old.exempt → candidateFollows s t ∧ t.kr.table = s.kr.table) ∧
         (e.repeats = old.repeats ∧ (e.exempt = old.exempt ∨ s.mlu.lockout = .opened) → t.kr = s.kr) ∧
         (s.mlu.lockout = .engaged → old.exempt = true → e.exempt = false → e.repeats = old.repeats →
           withdrawn (fun f => f.cls == cls.toNat) s t) ∧
         (s.mlu.lockout = .engaging → e.exempt ≠ old.exempt → coveredCount t = 0 →
           t.mlu = { s.mlu with lockout := .engaged, graceTimer := none }) ∧
         (s.mlu.lockout ≠ .engaging ∨ e.exempt = old.exempt ∨ coveredCount t ≠ 0 → t.mlu = s.mlu) ∧
         (s.mlu.lockout ≠ .engaged ∨ old.exempt = false ∨ e.exempt = true → t.tq = s.tq) ∧ lockoutNoticed s t ∧
         (∃ u, u.crm = t.crm ∧ u.kr.table = s.kr.table ∧ u.kr.seq = s.kr.seq ∧ routerKept s u ∧
           (e.repeats = old.repeats → u.kr = s.kr) ∧ (e.repeats ≠ old.repeats → candidateFollows s u) ∧
           unchangedBut [.crm, .kr, .port, .slots] s u ∧
           (e.exempt = old.exempt ∨ s.mlu.lockout = .opened → t.kr = u.kr ∧ t.tq = u.tq ∧ t.mlu = u.mlu) ∧
           (e.exempt ≠ old.exempt → s.mlu.lockout = .engaging → t.kr = u.kr ∧ t.tq = u.tq ∧
             t.mlu = if coveredCount u = 0 then { u.mlu with lockout := .engaged, graceTimer := none } else u.mlu) ∧
           (e.exempt ≠ old.exempt → s.mlu.lockout = .engaged → t.mlu = u.mlu ∧
             withdrawn (fun f => old.exempt && !e.exempt && f.cls == cls.toNat) u t)) ∧
         unchangedBut [.crm, .kr, .tq, .mlu, .notices, .port, .slots, .pins] s t) ∧
       (¬legal → gatewayAnswers 0x40#8 .illegal (shown s.crm.shadow.isSome (classEntry (s.crm.shadow.getD s.crm.live) cls.toNat)) t ∧
         unchangedBut [.port, .slots, .pins] s t))

/-- The staged edit: EDIT_BEGIN copies the live map, EDIT_APPLY makes the shadow the live map in one change, or is refused with STATE, and EDIT_ABANDON
discards it; CONFIG_LOCK sets the lock; RESET_PART is answered first and resets at its reply's end (R60, R62, R63, R187, R199). Where the applied map
differs in a repeat field the candidate is chosen again (R60), and then, where it differs in an exempt field, ENGAGING counts its covered entries
again and ENGAGED withdraws from the tablet the entries of each class that is exempt no longer (R61; log entry 9 for this order). -/
def Obligations.EditLockAndResetCommandsAnswer : Prop :=
  (∀ (h : CanHeader) (s : State), gatewayAsks h s →
    (∃ t, exec (.editBegin (.vehiclePort h) []) s = .next t ∧ gatewayHeard s t ∧ t.crm = { live := s.crm.live, shadow := some s.crm.live } ∧
      gatewayAnswers 0x41#8 .ok [] t ∧ unchangedBut [.crm, .port, .slots, .pins] s t) ∧
    (∃ t, exec (.editAbandon (.vehiclePort h) []) s = .next t ∧ gatewayHeard s t ∧ t.crm = { live := s.crm.live, shadow := none } ∧
      gatewayAnswers 0x43#8 .ok [] t ∧ unchangedBut [.crm, .port, .slots, .pins] s t) ∧
    (∃ t, exec (.configLock (.vehiclePort h) []) s = .next t ∧ gatewayHeard s t ∧ t.sst = { s.sst with configLock := true } ∧
      gatewayAnswers 0x48#8 .ok [1#8] t ∧ unchangedBut [.sst, .port, .slots, .pins] s t) ∧
    (∃ t, exec (.resetPart (.vehiclePort h) []) s = .next t ∧ gatewayHeard s t ∧ t.vp.reply.map Reply.resets = some true ∧
      gatewayAnswers 0x4A#8 .ok [] t ∧ unchangedBut [.port, .slots, .pins] s t) ∧
    (s.crm.shadow = none → ∃ t, exec (.editApply (.vehiclePort h) []) s = .next t ∧ gatewayHeard s t ∧ gatewayAnswers 0x42#8 .state [] t ∧
      unchangedBut [.port, .slots, .pins] s t)) ∧
  (∀ (h : CanHeader) (s : State) (m : List ClassEntry), gatewayAsks h s → s.crm.shadow = some m →
    let field := fun (f : ClassEntry → Bool) => ∀ c, c < 16 → f (classEntry m c) = f (classEntry s.crm.live c)
    ∃ t, exec (.editApply (.vehiclePort h) []) s = .next t ∧ gatewayHeard s t ∧ t.crm = { live := m, shadow := none } ∧
      gatewayAnswers 0x42#8 .ok [] t ∧ lockoutNoticed s t ∧
      (field ClassEntry.repeats → field ClassEntry.exempt → unchangedBut [.crm, .port, .slots, .pins] s t) ∧
      (field ClassEntry.exempt → t.kr.table = s.kr.table ∧ t.tq = s.tq ∧ t.mlu = s.mlu) ∧
      (∃ u, u.crm = { live := m, shadow := none } ∧ u.kr.table = s.kr.table ∧ u.kr.seq = s.kr.seq ∧ routerKept s u ∧
        (field ClassEntry.repeats → u.kr = s.kr) ∧ (¬field ClassEntry.repeats → candidateFollows s u) ∧
        unchangedBut [.crm, .kr, .port, .slots] s u ∧
        (field ClassEntry.exempt ∨ s.mlu.lockout = .opened → t.kr = u.kr ∧ t.tq = u.tq ∧ t.mlu = u.mlu) ∧
        (¬field ClassEntry.exempt → s.mlu.lockout = .engaging → t.kr = u.kr ∧ t.tq = u.tq ∧
          t.mlu = if coveredCount u = 0 then { u.mlu with lockout := .engaged, graceTimer := none } else u.mlu) ∧
        (¬field ClassEntry.exempt → s.mlu.lockout = .engaged → t.mlu = u.mlu ∧
          withdrawn (fun f => (classEntry s.crm.live f.cls).exempt && !(classEntry m f.cls).exempt) u t)) ∧
      (s.mlu.lockout = .engaged → mapsWhole s = true → coveredCount s = 0 → coveredCount t = 0) ∧
      unchangedBut [.crm, .kr, .tq, .mlu, .notices, .port, .slots, .pins] s t)

/-! ### Site records and settings -/

/-- SET_KEY writes the five fields of a site's record and keeps its trims; enabling makes the site IDLE and to be reseeded, disabling makes it OFF, with a
CONFIG forced release of a held key, a pending trim written, and the site out of the measured set of the scan in progress (R12, R17, R18, R20, R21; log
entry 18 for the measured set); a field out of range is refused with RANGE (R20). SET_TRIM writes the trims of an OFF site at once and makes them
pending for any other; out of range it is refused with RANGE and sets TRIM_RANGE for the tablet alone (R44, R45). -/
def Obligations.SiteCommandsWriteRecordsAndTrims : Prop :=
  (∀ (s : State) (rest : List Frame) (site : SiteIndex) (on : Bool) (code cls : Byte) (thr hyst : Nat) (r : SiteRecord) (q : SiteQual),
     let args := [byte site.val, flag on, code, cls] ++ word thr ++ word hyst
     dockAsks 0x11#8 args rest s → s.sst.configLock = false → s.mlu.motion = .parked → s.kfs.records[site.val]? = some r →
     s.kq.quals[site.val]? = some q → cls.toNat ≤ 15 → 8 ≤ thr → thr ≤ 1023 → hyst + 4 ≤ thr →
     let fresh := { q with
       debounce := 0, negRun := 0, railRun := 0, clearRun := 0, pressTime := none, trim := none, reseed := true }
     let written := { r with enabled := on, code := code.toNat, cls := cls.toNat, thr := thr, hyst := hyst }
     ∃ t, exec (.setKey .dockLink args) s = .next t ∧
       (cls.toNat = 15 → dockAnswers 0x11#8 rest .illegal [] t ∧ unchangedBut [.dockWire, .slots, .pins] s t) ∧
       (cls.toNat ≠ 15 → dockAnswers 0x11#8 rest .ok [] t ∧
         (on = r.enabled → t.kfs = { s.kfs with records := s.kfs.records.set site.val written } ∧
           unchangedBut [.kfs, .dockWire, .slots, .pins] s t) ∧
         (on = true → r.enabled = false → t.kfs = { s.kfs with records := s.kfs.records.set site.val written } ∧
           t.kq = { s.kq with quals := s.kq.quals.set site.val { fresh with state := .idle } } ∧
           unchangedBut [.kfs, .kq, .dockWire, .slots, .pins] s t) ∧
         (on = false → r.enabled = true →
           t.kfs = { s.kfs with
             records := s.kfs.records.set site.val
               (match q.trim with
                 | some p => { written with offset := p.offset, gain := p.gain }
                 | none => written)
             measured := s.kfs.measured.map (fun m => m.filter (fun j => j != site.val)) } ∧
           t.kq = { s.kq with quals := s.kq.quals.set site.val { fresh with state := .off } } ∧
           (q.state = .pressed ∨ q.state = .releasing → releaseTaken (.site site.val) (some .config) (0, 0) s t) ∧
           (q.state ≠ .pressed → q.state ≠ .releasing → t.kr = s.kr ∧ t.tq = s.tq ∧ sameAt s t .gq ∧ t.mlu = s.mlu) ∧
           lockoutNoticed s t ∧
           unchangedBut [.kfs, .kq, .kr, .tq, .gq, .mlu, .notices, .dockWire, .slots, .pins] s t))) ∧
  (∀ (s : State) (rest : List Frame) (site on code cls : Byte) (thr hyst : Nat),
     let args := [site, on, code, cls] ++ word thr ++ word hyst
     dockAsks 0x11#8 args rest s → s.sst.configLock = false → s.mlu.motion = .parked → thr < 65536 → hyst < 65536 →
     95 < site.toNat ∨ 1 < on.toNat ∨ 15 < cls.toNat ∨ thr < 8 ∨ 1023 < thr ∨ thr < hyst + 4 →
     ∃ t, exec (.setKey .dockLink args) s = .next t ∧ dockAnswers 0x11#8 rest .range [] t ∧ unchangedBut [.dockWire, .slots, .pins] s t) ∧
  (∀ (s : State) (rest : List Frame) (site : Byte) (offset gain : BitVec 16),
     let args := [site] ++ word offset.toNat ++ word gain.toNat
     let inRange := site.toNat ≤ 95 ∧ -512 ≤ offset.toInt ∧ offset.toInt ≤ 511 ∧ gain.toNat ≤ 2047
     dockAsks 0x12#8 args rest s → s.sst.configLock = false → s.mlu.motion = .parked →
     ∃ t, exec (.setTrim .dockLink args) s = .next t ∧
       (¬inRange → dockAnswers 0x12#8 rest .range [] t ∧ t.dlp.notices = s.dlp.notices ||| noticeWord .trimRange ∧
         t.vp.notices = s.vp.notices ∧ unchangedBut [.notices, .dockWire, .slots, .pins] s t) ∧
       (inRange → ∀ r, s.kfs.records[site.toNat]? = some r → ∀ q, s.kq.quals[site.toNat]? = some q → dockAnswers 0x12#8 rest .ok [] t ∧
         (q.state = .off →
           t.kfs = { s.kfs with records := s.kfs.records.set site.toNat { r with offset := offset.toInt, gain := gain.toNat } } ∧
           t.kq = { s.kq with quals := s.kq.quals.set site.toNat { q with trim := none } }) ∧
         (q.state ≠ .off → t.kfs = s.kfs ∧ t.kq = { s.kq with
           quals := s.kq.quals.set site.toNat { q with trim := some { offset := offset.toInt, gain := gain.toNat } } }) ∧
         unchangedBut [.kfs, .kq, .dockWire, .slots, .pins] s t))

/-- SET_QUALIFY, SET_REPEAT, SET_BRIGHTNESS, SET_TOUCH_CAL and SNAPSHOT_SELECT put a value in range in place, and nothing else; the period in force and a
running repeat timer wait, and a guard threshold that becomes 0 ends WET; a value out of range is refused with RANGE (R13, R25, R43, R46, R47, R49, R108,
R109, R149, R154). -/
def Obligations.SettingCommandsReplaceTheirSettings : Prop :=
  (∀ (s : State) (rest : List Frame) (q : QualifySettings), dockAsks 0x13#8 (qualifyBytes q) rest s → s.sst.configLock = false →
    s.mlu.motion = .parked → qualifyInRange q = true →
    let off := s.kq.settings.guardThr ≠ 0 ∧ q.guardThr = 0
    ∃ t, exec (.setQualify .dockLink (qualifyBytes q)) s = .next t ∧ dockAnswers 0x13#8 rest .ok [] t ∧
      (¬off → t.kq = { s.kq with settings := q } ∧ unchangedBut [.kq, .dockWire, .slots, .pins] s t) ∧
      (off → t.kq = { s.kq with
          settings := q
          guard := { s.kq.guard with wet := false, wetRun := 0, dryRun := 0, negRun := 0, reseed := true } } ∧
        (s.kq.guard.wet = true → noticed .wet s t) ∧ (s.kq.guard.wet = false → sameAt s t .notices) ∧
        unchangedBut [.kq, .notices, .dockWire, .slots, .pins] s t)) ∧
  (∀ (s : State) (rest : List Frame) (delay interval : Nat), dockAsks 0x14#8 (word delay ++ [byte interval]) rest s →
    s.sst.configLock = false → 250 ≤ delay → delay ≤ 1000 → 20 ≤ interval → interval ≤ 200 →
    ∃ t, exec (.setRepeat .dockLink (word delay ++ [byte interval])) s = .next t ∧ dockAnswers 0x14#8 rest .ok [] t ∧
      t.kr = { s.kr with delay := delay, interval := interval } ∧ unchangedBut [.kr, .dockWire, .slots, .pins] s t) ∧
  (∀ (s : State) (rest : List Frame) (period np nr rate common stuck : Byte) (guard margin : Nat),
    let args := [period, np, nr, rate, common, stuck] ++ word guard ++ word margin
    dockAsks 0x13#8 args rest s → s.sst.configLock = false → s.mlu.motion = .parked → guard < 65536 → margin < 65536 →
    period.toNat ∉ [8, 12, 16, 24] ∨ np.toNat = 0 ∨ 7 < np.toNat ∨ nr.toNat = 0 ∨ 7 < nr.toNat ∨ rate.toNat < 4 ∨ 7 < rate.toNat ∨
      common.toNat < 2 ∨ 12 < common.toNat ∨ (1 ≤ stuck.toNat ∧ stuck.toNat ≤ 4) ∨ 60 < stuck.toNat ∨ (1 ≤ guard ∧ guard ≤ 15) ∨
      1023 < guard ∨ 1023 < margin →
    ∃ t, exec (.setQualify .dockLink args) s = .next t ∧ dockAnswers 0x13#8 rest .range [] t ∧
      unchangedBut [.dockWire, .slots, .pins] s t) ∧
  (∀ (s : State) (rest : List Frame) (delay : Nat) (interval : Byte), dockAsks 0x14#8 (word delay ++ [interval]) rest s →
    s.sst.configLock = false → delay < 65536 → delay < 250 ∨ 1000 < delay ∨ interval.toNat < 20 ∨ 200 < interval.toNat →
    ∃ t, exec (.setRepeat .dockLink (word delay ++ [interval])) s = .next t ∧ dockAnswers 0x14#8 rest .range [] t ∧
      unchangedBut [.dockWire, .slots, .pins] s t) ∧
  (∀ (s : State) (rest : List Frame) (c : TouchCal), dockAsks 0x17#8 (calBytes c) rest s → s.sst.configLock = false →
    c.xmin < 65536 → c.xmax < 65536 → c.ymin < 65536 → c.ymax < 65536 →
    4095 < c.xmax ∨ c.xmax < c.xmin + 256 ∨ 4095 < c.ymax ∨ c.ymax < c.ymin + 256 →
    ∃ t, exec (.setTouchCal .dockLink (calBytes c)) s = .next t ∧ dockAnswers 0x17#8 rest .range [] t ∧
      unchangedBut [.dockWire, .slots, .pins] s t) ∧
  (∀ (s : State) (rest : List Frame) (gain : Byte), dockAsks 0x15#8 [gain] rest s →
    ∃ t, exec (.setBrightness .dockLink [gain]) s = .next t ∧ dockAnswers 0x15#8 rest .ok [] t ∧
      t.blr = { s.blr with gain := gain.toNat, target := backlightTarget t } ∧ unchangedBut [.blr, .dockWire, .slots, .pins] s t) ∧
  (∀ (s : State) (rest : List Frame) (c : TouchCal), dockAsks 0x17#8 (calBytes c) rest s → s.sst.configLock = false →
    c.xmax ≤ 4095 → c.xmin + 256 ≤ c.xmax → c.ymax ≤ 4095 → c.ymin + 256 ≤ c.ymax →
    ∃ t, exec (.setTouchCal .dockLink (calBytes c)) s = .next t ∧ dockAnswers 0x17#8 rest .ok [] t ∧
      t.tpi = { s.tpi with cal := c } ∧ unchangedBut [.tpi, .dockWire, .slots, .pins] s t) ∧
  (∀ (s : State) (rest : List Frame) (site : Byte), dockAsks 0x1B#8 [site] rest s →
    ∃ t, exec (.snapshotSelect .dockLink [site]) s = .next t ∧
      (site.toNat ≤ 95 → dockAnswers 0x1B#8 rest .ok [] t ∧ t.kq = { s.kq with snapSelect := site.toNat } ∧
        unchangedBut [.kq, .dockWire, .slots, .pins] s t) ∧
      (96 ≤ site.toNat → dockAnswers 0x1B#8 rest .range [] t ∧ unchangedBut [.dockWire, .slots, .pins] s t))

/-- SET_INSTALL replaces the installation: a changed line starts afresh, an unchanged one keeps its level, the signals are taken from their sources
anew and each changed one is reported to its user (R75, R140, R202, R204; log entry 9 for the order of the reports), a changed park brake derives the
motion state and the lockout anew, and the base and rate in force stay; an unlawful line setup is refused with ILLEGAL, and a field out of range with
RANGE (R76, R83, R88, R189, R190; log entry 25 for a signal whose line and source change together, which changes once). -/
def Obligations.SetInstallReplacesTheInstallation : Prop :=
  (∀ (s : State) (rest : List Frame) (i : Installation), dockAsks 0x18#8 (installBytes i) rest s → s.sst.configLock = false →
      s.mlu.motion = .parked → i.base ≤ 0x7FB → i.lines.length = 4 →
      ∃ t, exec (.setInstall .dockLink (installBytes i)) s = .next t ∧
        (linesLegal i.lines = true → dockAnswers 0x18#8 rest .ok [] t ∧ t.axl.install = i ∧ t.mlu.signals = sourcedSignals t ∧
          signalsReported s t ∧
          t.mlu = { s.mlu with
            signals := t.mlu.signals, motion := t.mlu.motion, lockout := t.mlu.lockout, graceTimer := t.mlu.graceTimer } ∧
          (lockoutLaw s = true → lockoutFollows (s.mlu.mode != .off && t.mlu.motion != .parked) s t) ∧
          (∀ (k : Nat) (l : Line), s.axl.lines[k]? = some l → ∀ old, s.axl.install.lines[k]? = some old →
            ∀ new, i.lines[k]? = some new →
            t.axl.lines[k]? = some (if old = new then l else
              { raw := l.raw, debounced := none
                timer := if new.mode = .inputHigh ∨ new.mode = .inputLow then some { start := s.clock, span := 20 } else none })) ∧
          t.mlu.motion = (if t.mlu.signals.brake = s.mlu.signals.brake then s.mlu.motion
            else motionResult s.mlu.motion t.mlu.signals s.mlu.params) ∧
          unchangedBut [.axl, .mlu, .kfs, .dss, .tpi, .blr, .sst, .notices, .dockWire, .slots, .pins] s t) ∧
        (linesLegal i.lines = false → dockAnswers 0x18#8 rest .illegal [] t ∧ unchangedBut [.dockWire, .slots, .pins] s t)) ∧
  (∀ (s : State) (rest : List Frame) (args : List Byte), dockAsks 0x18#8 args rest s → s.sst.configLock = false →
    s.mlu.motion = .parked → args.length = 15 →
    let field := fun i => (args.getD i 0#8).toNat
    0x7FB < field 0 * 256 + field 1 ∨ (∃ i, 2 ≤ i ∧ i ≤ 6 ∧ 1 < field i) ∨ (∃ i, 7 ≤ i ∧ i ≤ 14 ∧ 4 < field i) →
    ∃ t, exec (.setInstall .dockLink args) s = .next t ∧ dockAnswers 0x18#8 rest .range [] t ∧
      unchangedBut [.dockWire, .slots, .pins] s t)

/-! ### The settings store -/

/-- SAVE_SETTINGS takes a copy of the working settings and begins write 1, from the gateway whatever the lock and the motion; while a save is in progress
it is refused with BUSY (R67, R84, R154, R196). -/
def Obligations.SaveTakesACopyOfTheSettings : Prop :=
  ∀ s : State,
    let copy : Settings :=
      { sites := s.kfs.records, qualify := s.kq.settings, classes := s.crm.live.map fun e => { e with locked := false }
        delay := s.kr.delay, interval := s.kr.interval, mode := if s.mlu.mode = .off then .off else .on
        params := s.mlu.params, cal := s.tpi.cal, gain := s.blr.gain, nightCap := s.blr.nightCap, install := s.axl.install }
    let begun := { s.sst with
      save := some { copy := copy, write := 1, timer := { start := s.clock, span := 5 } }, storedGain := s.blr.gain }
    (∀ rest, dockAsks 0x19#8 [] rest s → s.sst.configLock = false → s.mlu.motion = .parked →
      ∃ t, exec (.saveSettings .dockLink []) s = .next t ∧
        (s.sst.save = none → t.sst = begun ∧ dockAnswers 0x19#8 rest .ok [] t ∧ unchangedBut [.sst, .dockWire, .slots, .pins] s t) ∧
        (s.sst.save.isSome = true → dockAnswers 0x19#8 rest .busy [] t ∧ unchangedBut [.dockWire, .slots, .pins] s t)) ∧
    (∀ h, gatewayAsks h s →
      ∃ t, exec (.saveSettings (.vehiclePort h) []) s = .next t ∧ gatewayHeard s t ∧
        (s.sst.save = none → t.sst = begun ∧ gatewayAnswers 0x19#8 .ok [] t ∧ unchangedBut [.sst, .port, .slots, .pins] s t) ∧
        (s.sst.save.isSome = true → gatewayAnswers 0x19#8 .busy [] t ∧ unchangedBut [.port, .slots, .pins] s t))

/-- A page write that verifies leaves its page whole and goes on to the next one, or ends the save with STORE_DONE at write 17; one that does not leaves
its page unsound and ends the save with STORE_FAIL; every other byte of the image stays (R192, R197; the bytes of an unsound page are log entry 5,
the operand log entry 7). -/
def Obligations.PageWritesFillTheImage : Prop :=
  ∀ (s : State) (w : Save) (verified : Bool), s.held = false → imageLaw s = true → s.sst.save = some w → w.timer.due s.clock = true →
    let page := if w.write = 17 then 0 else w.write - 1
    ∃ t, exec (.pageWriteEnd verified) s = .next t ∧
      (∀ a, a < 64 * page ∨ 64 * page + 64 ≤ a → memRead t.sst.image a = memRead s.sst.image a) ∧
      t.sst.configLock = s.sst.configLock ∧ t.sst.storedGain = s.sst.storedGain ∧ t.sst.defaultsInUse = s.sst.defaultsInUse ∧
      t.sst.cause = s.sst.cause ∧ t.sst.standby = s.sst.standby ∧ t.sst.standbyTimer = s.sst.standbyTimer ∧
      (verified = true → t.free = s.free ∧ readPage t.sst.image page = pageBytes (writeFields w.copy w.write) ∧
        (w.write < 17 → sameAt s t .notices ∧ t.sst.save = some { w with
          write := w.write + 1, timer := { start := (w.timer.start + w.timer.span) % 65536, span := 5 } }) ∧
        (w.write = 17 → t.sst.save = none ∧ noticed .storeDone s t ∧ imageValid t.sst.image = true)) ∧
      (verified = false → t.sst.save = none ∧ noticed .storeFail s t ∧ soundPage (readPage t.sst.image page) = false) ∧
      unchangedBut [.sst, .free, .notices, .slots, .pins] s t

/-- What a whole save wrote, a load brings back: after the 17 writes of any lawful settings, on any image, a load finds those settings with nothing
replaced and no defaults in use (R193, R197, R212). -/
def Obligations.SavedSettingsLoadBack : Prop :=
  ∀ (c : Settings) (m : Memory), settingsLegal c = true → Memory.wf m = true →
    loadImage (writesDone c 17 m) = { settings := c, replaced := false, defaultsInUse := false }

/-- LOAD_SETTINGS puts the image's settings in place: records, class map but for locked classes, repeat, calibration, gain, night cap, installation
and qualification settings; the lockout mode and parameters, the shadow map, the base and rate in force and the counters of the ports stay (R48, R66,
R109, R193, R195). A site that stays enabled keeps its state, a CANDIDATE becoming IDLE, its pending trim goes and it is to be reseeded; one newly
enabled is IDLE, one newly disabled OFF, and one that stays disabled is untouched; the guard is to be reseeded, with WET and its runs as they stand,
unless the guard threshold becomes 0, and the counters, the snapshot and its selection stay (R17, R18, R43, R48); a line whose setup changes starts
afresh, and another keeps its level and timer (R189 to R191); the sites that it disables leave the set of a scan in progress (log entry 18). The
second premise on each record shuts out a trim that the load itself writes (log entry 16). The held sites newly disabled are forced up with CONFIG in
ascending order, then the candidate is chosen again where a repeat field changed, with the delay that the load replaces, and last the signals are
taken from their sources anew, each changed one reported to its user (R75, R140, R202, R204; log entry 9 for the order of the reports), with the
motion state and the lockout (R76, R83; log entry 24 for the order of the load's parts). A signal whose line and source the load changes together
changes once (log entry 25). The premise of the last clause is the lockout's invariant, and that of the clause on trims left over the table's: exactly
the disabled sites are OFF. -/
def Obligations.LoadPutsTheImageInPlace : Prop :=
  ∀ (s : State) (rest : List Frame), dockAsks 0x1A#8 [] rest s → s.sst.configLock = false → s.mlu.motion = .parked →
    s.kfs.records.length = 96 → s.kq.quals.length = 96 →
    let l := loadImage s.sst.image
    let enabledAfter := fun i => (l.settings.sites.getD i (defaultSite i)).enabled
    let dropped := fun i => (siteRecord s i).enabled && !enabledAfter i
    ∃ t, exec (.loadSettings .dockLink []) s = .next t ∧
      (s.sst.save.isSome = true → dockAnswers 0x1A#8 rest .busy [] t ∧ unchangedBut [.dockWire, .slots, .pins] s t) ∧
      (s.sst.save = none → dockAnswers 0x1A#8 rest .ok [] t ∧
        (∀ (i : Nat) (r : SiteRecord), l.settings.sites[i]? = some r → ∀ q, s.kq.quals[i]? = some q →
          (q.trim = none ∨ r.enabled = true) → t.kfs.records[i]? = some r) ∧
        (tableLaw s = true → ∀ q ∈ t.kq.quals, q.trim = none ∨ q.state = .off) ∧
        (let guardOff := s.kq.settings.guardThr ≠ 0 ∧ l.settings.qualify.guardThr = 0
         t.kq = { s.kq with
           quals := t.kq.quals, settings := l.settings.qualify
           guard := if guardOff then { s.kq.guard with reseed := true, wet := false, wetRun := 0, dryRun := 0, negRun := 0 }
             else { s.kq.guard with reseed := true } }) ∧
        (∀ (i : Nat) (q : SiteQual), s.kq.quals[i]? = some q →
          let fresh := { q with
            debounce := 0, negRun := 0, railRun := 0, clearRun := 0, pressTime := none, trim := none, reseed := true }
          t.kq.quals[i]? = some (
            match (siteRecord s i).enabled, enabledAfter i with
            | true, true => { q with
                trim := none, reseed := true, state := if q.state = .candidate then .idle else q.state
                debounce := if q.state = .candidate then 0 else q.debounce }
            | false, true => { fresh with state := .idle }
            | true, false => { fresh with state := .off }
            | false, false => q)) ∧
        (s.kfs.measured = none → t.kfs.measured = none) ∧
        (∀ m, s.kfs.measured = some m → ∃ n, t.kfs.measured = some n ∧ ∀ i, i ∈ n ↔ i ∈ m ∧ (i < 96 → dropped i = false)) ∧
        (∀ (c : Nat) (e : ClassEntry), s.crm.live[c]? = some e → ∀ k, l.settings.classes[c]? = some k →
          t.crm.live[c]? = some (if e.locked then e else k)) ∧ t.crm.shadow = s.crm.shadow ∧
        t.kr.delay = l.settings.delay ∧ t.kr.interval = l.settings.interval ∧
        t.axl.install = l.settings.install ∧
        (∀ (k : Nat) (v : Line), s.axl.lines[k]? = some v → ∀ old, s.axl.install.lines[k]? = some old →
          ∀ new, l.settings.install.lines[k]? = some new →
          t.axl.lines[k]? = some (if old = new then v else
            { raw := v.raw, debounced := none
              timer := if new.mode = .inputHigh ∨ new.mode = .inputLow then some { start := s.clock, span := 20 } else none })) ∧
        t.mlu.mode = s.mlu.mode ∧ t.mlu.params = s.mlu.params ∧
        t.sst = { s.sst with
          storedGain := l.settings.gain, defaultsInUse := l.defaultsInUse, standby := t.sst.standby
          standbyTimer := t.sst.standbyTimer } ∧
        t.kfs = { s.kfs with records := t.kfs.records, measured := t.kfs.measured, standbyScan := t.kfs.standbyScan } ∧
        t.tpi = { s.tpi with cal := l.settings.cal, retry := t.tpi.retry } ∧ usersTold s t ∧
        (let cap := fun n : State => if n.mlu.signals.night = some true then l.settings.nightCap else 255
         t.blr = { s.blr with
           gain := l.settings.gain, nightCap := l.settings.nightCap, level := min (min s.blr.level (cap s)) (cap t)
           target := backlightAsked t }) ∧
        (l.replaced = true → t.dlp.notices &&& noticeWord .storeDefaulted ≠ 0 ∧ t.vp.notices &&& noticeWord .storeDefaulted ≠ 0) ∧
        (lockoutLaw s = true →
          let held := (List.range 96).filter fun i => dropped i && ((siteQual s i).state == .pressed || (siteQual s i).state == .releasing)
          let guardGone := s.kq.settings.guardThr != 0 && l.settings.qualify.guardThr == 0 && s.kq.guard.wet
          let repeatsKept := ∀ c, c < 16 → (classEntry t.crm.live c).repeats = (classEntry s.crm.live c).repeats
          t.mlu.signals = sourcedSignals t ∧
          t.mlu = { s.mlu with
            signals := t.mlu.signals, motion := t.mlu.motion, lockout := t.mlu.lockout, graceTimer := t.mlu.graceTimer } ∧
          t.mlu.motion = (if t.mlu.signals.brake = s.mlu.signals.brake then s.mlu.motion
            else motionResult s.mlu.motion t.mlu.signals s.mlu.params) ∧
          ∃ u v,
            (let shown := noticeIf guardGone .wet ||| noticeIf l.replaced .storeDefaulted
             u.dlp.notices = s.dlp.notices ||| shown ∧ u.vp.notices = s.vp.notices ||| shown) ∧ unchangedBut [.notices, .slots] s u ∧
            keyEventsTaken (held.map fun i => (i, .forced .config)) u v ∧ t.tq = v.tq ∧ sameAt v t .gq ∧
            t.kr.table = v.kr.table ∧ t.kr.seq = v.kr.seq ∧ t.kr.rollovers = v.kr.rollovers ∧ t.kr.repeatDrops = v.kr.repeatDrops ∧
            (repeatsKept → t.kr.candidate = v.kr.candidate ∧ t.kr.repeatTimer = v.kr.repeatTimer) ∧
            (¬repeatsKept → candidateFollows v t) ∧
            lockoutFollows (s.mlu.mode != .off && t.mlu.motion != .parked) ((v.setCrm t.crm).setKr t.kr) t) ∧
        unchangedBut [.kfs, .kq, .crm, .kr, .tq, .gq, .mlu, .dss, .tpi, .blr, .axl, .sst, .notices, .dockWire, .slots, .pins] s t)

/-! ### Commands refused -/

/-- The ports' own refusals: on the dock link DENIED for a command of the gateway, whatever its length, and FORMAT for a wrong length; on the vehicle port
UNKNOWN for a command of the tablet and FORMAT for a wrong length; UNKNOWN for a code that names no command; a gateway command while a reply is in
progress is dropped (R58, R167, R184; log entry 4 for a dock command that is not the oldest frame). The configuration lock refuses the tablet's
configuration commands with LOCKED, and a motion state other than PARKED refuses with STATE those that ask for it (R83, R199). -/
def Obligations.RefusedCommandsAnswerAndChangeNothing : Prop :=
  ((∀ k ∈ gatewayCommands, ∀ (s : State) (args : List Byte) (rest : List Frame), dockAsks k.1 args rest s →
     ∃ t, exec (k.2.2 .dockLink args) s = .next t ∧ dockAnswers k.1 rest .denied [] t ∧ unchangedBut [.dockWire, .slots, .pins] s t) ∧
   (∀ k ∈ tabletCommands ++ sharedCommands, ∀ (s : State) (args : List Byte) (rest : List Frame), dockAsks k.1 args rest s →
     args.length ≠ k.2.1 →
     ∃ t, exec (k.2.2 .dockLink args) s = .next t ∧ dockAnswers k.1 rest .format [] t ∧ unchangedBut [.dockWire, .slots, .pins] s t) ∧
   (∀ k ∈ tabletCommands, ∀ (h : CanHeader) (s : State) (args : List Byte), gatewayAsks h s →
     ∃ t, exec (k.2.2 (.vehiclePort h) args) s = .next t ∧ gatewayHeard s t ∧ gatewayAnswers k.1 .unknown [] t ∧
       unchangedBut [.port, .slots, .pins] s t) ∧
   (∀ k ∈ gatewayCommands ++ sharedCommands, ∀ (h : CanHeader) (s : State) (args : List Byte), gatewayAsks h s → args.length ≠ k.2.1 →
     ∃ t, exec (k.2.2 (.vehiclePort h) args) s = .next t ∧ gatewayHeard s t ∧ gatewayAnswers k.1 .format [] t ∧
       unchangedBut [.port, .slots, .pins] s t) ∧
   (∀ k ∈ gatewayCommands ++ sharedCommands ++ tabletCommands, ∀ (h : CanHeader) (s : State) (args : List Byte) (r : Reply), s.held = false →
     s.vp.heldOff = false → addressed 1 h s → s.vp.reply = some r →
     ∃ t, exec (k.2.2 (.vehiclePort h) args) s = .next t ∧ gatewayHeard s t ∧ t.vp.commandDrops = min (s.vp.commandDrops + 1) 65535 ∧
       t.vp.reply.isSome = true ∧ unchangedBut [.port, .vehicle, .slots, .pins] s t) ∧
   (∀ k ∈ tabletCommands ++ sharedCommands ++ gatewayCommands, ∀ (s : State) (args : List Byte), s.held = false →
     s.dlp.frames.head? ≠ some { type := k.1, payload := args } →
     ∃ t, exec (k.2.2 .dockLink args) s = .next t ∧ unchangedBut [.slots, .pins] s t) ∧
   (∀ (s : State) (code : Byte) (args : List Byte),
     (namesNoCommand .tablet code = true → ∀ rest, dockAsks code args rest s →
       ∃ t, exec (.unknownCommand .dockLink code args) s = .next t ∧ dockAnswers code rest .unknown [] t ∧
         unchangedBut [.dockWire, .slots, .pins] s t) ∧
     (namesNoCommand .gateway code = true → ∀ h, gatewayAsks h s →
       ∃ t, exec (.unknownCommand (.vehiclePort h) code args) s = .next t ∧ gatewayHeard s t ∧ gatewayAnswers code .unknown [] t ∧
         unchangedBut [.port, .slots, .pins] s t))) ∧
  ((∀ k ∈ parkedCommands ++ lockedCommands, ∀ (s : State) (args : List Byte) (rest : List Frame), dockAsks k.1 args rest s →
     args.length = k.2.1 → s.sst.configLock = true →
     ∃ t, exec (k.2.2 .dockLink args) s = .next t ∧ dockAnswers k.1 rest .locked [] t ∧ unchangedBut [.dockWire, .slots, .pins] s t) ∧
   (∀ k ∈ parkedCommands, ∀ (s : State) (args : List Byte) (rest : List Frame), dockAsks k.1 args rest s →
     args.length = k.2.1 → s.sst.configLock = false → s.mlu.motion ≠ .parked →
     ∃ t, exec (k.2.2 .dockLink args) s = .next t ∧ dockAnswers k.1 rest .state [] t ∧ unchangedBut [.dockWire, .slots, .pins] s t))

/-- Only a full reset clears the configuration lock and leaves ON_LOCKED: no other command of either master and no other event does (R85, R199). -/
def Obligations.LocksOutlastEverythingButAFullReset : Prop :=
  ∀ (c : Instr) (s t : State), exec c s = .next t → c ≠ .powerOn → c ≠ .supplyDip → c ≠ .supplyRestored →
    ((c = .controlTxComplete ∨ c = .busOff) → (s.vp.reply.all fun r => !r.resets) = true) →
    (s.sst.configLock = true → t.sst.configLock = true) ∧ (s.mlu.mode = .onLocked → t.mlu.mode = .onLocked)

/-! ### What every step keeps -/

/-- Every step keeps the laws of the queues: at most 12 entries; in each queue the reports and reserved places fit the capacity, and the reserved count is
the number of entries that its master owns; the numbers of the entries differ (R96, R97, R121). And it keeps the law of the ports: a tablet whose link
is neither UP nor STALE, and an OFFLINE gateway, own no entry and have an empty queue (R71, R113, R131, R168, R178). -/
def Obligations.StepKeepsQueueAndPortLaws : Prop :=
  (∀ s t : State, (queueLaw s && seqLaw s) = true → step s = .next t → (queueLaw t && seqLaw t) = true) ∧
  (∀ s t : State, portLaw s = true → step s = .next t → portLaw t = true)

/-- Every step keeps the law of the table: each entry's site is PRESSED or RELEASING, the touch entry's contact is DOWN, no source has two entries, and
exactly the disabled sites are OFF (R23, R37, R96, R107). -/
def Obligations.StepKeepsEntriesWithHeldSources : Prop :=
  ∀ s t : State, tableLaw s = true → step s = .next t → tableLaw t = true

/-- Every step keeps the law of the lockout: it is in effect just while its condition holds, from the first scan completion on; a grace has a covered entry
and its timer, and while ENGAGED no covered entry is the tablet's (R87 to R93, R106). -/
def Obligations.StepKeepsTheLockoutLaw : Prop :=
  ∀ s t : State, lockoutLaw s = true → step s = .next t → lockoutLaw t = true

/-- Every step keeps the display's law, the target being the desired source and a settled display showing it, and the cap's: neither level nor target of
the backlight exceeds the cap in force (R137 to R141, R152, R153). -/
def Obligations.StepKeepsDisplayAndCapLaws : Prop :=
  ∀ s t : State, (displayLaw s && capLaw s) = true → step s = .next t → (displayLaw t && capLaw t) = true

/-- Every step keeps the image's canonical form, and a save past its first write has no valid header in it until the save ends (R192, R197, R198). -/
def Obligations.StepKeepsTheImageLaw : Prop :=
  ∀ s t : State, saveLaw s = true → step s = .next t → saveLaw t = true

/-- Every step keeps the settings in their ranges: the law of class 15 in both maps, the site records, the pending trims and the qualification settings
(R8, R10, R25, R44, R55); and the repeat delay and interval, the lockout parameters, the calibration, the gains, the night cap, the installation and
the base in force (R84, R108, R149, R154, R155, R176, R190). -/
def Obligations.StepKeepsSettingsInRange : Prop :=
  (∀ s t : State, (tableLaw s && mapsWhole s && touchClassLaw s && siteSettingsLaw s) = true → step s = .next t →
    (touchClassLaw t && siteSettingsLaw t) = true) ∧
  (∀ s t : State, otherSettingsLaw s = true → step s = .next t → otherSettingsLaw t = true)

/-- Every step keeps the receive buffer within 256 bytes, and the millisecond counter and every counter within 65,535 (R2, R4, R166). -/
def Obligations.StepKeepsBufferAndCountersBounded : Prop :=
  ∀ s t : State, (bufferLaw s && counterLaw s) = true → step s = .next t → (bufferLaw t && counterLaw t) = true

/-- After any command the output pins show what the state asks of them, and a free slot with a frame to send is loaded; the return of a supply that
was not lost is no event (R182, R183; log entries 10 and 22). BLPWM is the backlight level (R153); VSEL selects the gateway's input just while the
target is GATEWAY (R137); TATN is asserted just while the link is WAITING, UP or STALE and the tablet queue holds a report or an enabled notice is set
(R168); an auxiliary line is pulled to its active level just where it is OUTPUT_LOCKOUT with the lockout in effect, or OUTPUT_FAULT with a site or the
touch panel in FAULT, and every other line, an input of either active level among them, is released (R188). Every command keeps the law of the report
slot: a KEY_REPORT that the gateway queue has handed over since its last flush carries the head's record, and one that any command loads into a free
slot, at the queue's first report, at a completion or at the rejoin, has been handed over so (R130, R131, R182, R207; the premise of this last is the
slots' law). -/
def Obligations.PinsAndSlotsFollowEveryCommand : Prop :=
  (∀ (c : Instr) (s t : State), exec c s = .next t → (c = .supplyRestored → s.held = true) →
    pinLaw t = true ∧ slotLaw t = true ∧ (t.held = false →
      t.pins.blpwm = t.blr.level ∧ (t.pins.vsel = .gateway ↔ t.dss.target = .gateway) ∧
      (t.pins.tatn = true ↔
        (t.dlp.link = .waiting ∨ t.dlp.link = .up ∨ t.dlp.link = .stale) ∧
          (t.tq.reports ≠ [] ∨ t.dlp.notices &&& t.dlp.mask ≠ 0#16)) ∧
      t.pins.lamps.length = t.axl.install.lines.length ∧
      ∀ (k : Nat) (n : LineSetup), t.axl.install.lines[k]? = some n → ∃ active, t.pins.lamps[k]? = some active ∧
        (active = true ↔
          (n.mode = .outputLockout ∧ (t.mlu.lockout = .engaging ∨ t.mlu.lockout = .engaged)) ∨
            (n.mode = .outputFault ∧ ((∃ q ∈ t.kq.quals, q.state = .fault) ∨ t.tpi.contact = .fault))))) ∧
  (∀ (c : Instr) (s t : State), exec c s = .next t →
    (headLaw s = true → headLaw t = true) ∧
      (slotLaw s = true → s.vp.reportSlot = none → t.vp.reportSlot.isSome = true → t.gq.headHeld = true))

/-! ### Qualification inside a completion, site by site -/

/-- What the stages of a completion do to one site. A site without a count is left alone. A site in FAULT, or whose rail run reaches 8, stops there (R27,
R28). Any other site takes its pending trim if it is IDLE (R29), has a corrected count (R30), and is reseeded if that is due, in any state (R31); else its
delta is judged against the threshold, with the WET margin while WET (R32), the stuck test first (R36), then the state machine (R34, R35), and its
baseline moves only where it was IDLE before and after, with a delta, in a completion not rejected; in one not rejected its negative run otherwise
becomes 0 (R38). The guard is switched off, reseeded or evaluated, and updated where the completion is not rejected (R40, R42). A snapshot holds what the
site's path through the completion gave it (R50). -/
def Obligations.CompletionStagesQualifyEachSite : Prop :=
  (∀ (s : State) (m : List Nat) (guard : Nat) (counts : List Count) (i : Nat) (r : SiteRecord) (q : SiteQual) (n : Count),
     s.kfs.records[i]? = some r → s.kq.quals[i]? = some q → counts[i]? = some n →
     let c := runStages s m guard counts
     let set := s.kq.settings
     let raw := n.val
     let rail := raw = 0 ∨ raw = 4095
     let counted := m.contains i = true ∧ r.enabled = true
     let run := if rail then min (q.railRun + 1) 8 else 0
     let r1 := match q.state, q.trim with
       | .idle, some p => { r with offset := p.offset, gain := p.gain }
       | _, _ => r
     let q1 := { q with railRun := run, trim := if q.state = .idle then none else q.trim }
     let k := correctedCount raw r1.offset r1.gain
     let seeds := q.reseed = true ∨ (q.state = .idle ∧ q.trim ≠ none)
     let d : Int := (k : Int) - (q.base / 16 : Nat)
     let thr := if c.guard.wet then r.thr + set.wetMargin else r.thr
     let stuck := (q.state = .pressed ∨ q.state = .releasing) ∧ set.stuck ≠ 0 ∧
       ∃ at_, q.pressTime = some at_ ∧ set.stuck * 1000 ≤ elapsed s.clock at_
     let u := stateUpdate set s.clock c.rejected r q1 d thr
     let b := baselineUpdate set.rate c.guard.wet (r.thr / 2) q.base q.negRun k d
     ∃ p, c.sites[i]? = some p ∧ p.before = q.state ∧
       (¬counted → p = { record := r, qual := q, before := q.state, found := .noCount, event := none }) ∧
       (counted → q.state = .fault →
         p.record = r ∧ p.found = .stopped raw ∧ p.event = none ∧ p.qual.base = q.base ∧ p.qual.trim = q.trim ∧
           p.qual.negRun = if c.rejected then q.negRun else 0) ∧
       (counted → q.state ≠ .fault → rail → 7 ≤ q.railRun → p.record = r ∧ p.found = .stopped raw ∧ p.qual.state = .fault ∧
         p.qual.base = q.base ∧ p.qual.trim = q.trim) ∧
       (counted → q.state ≠ .fault → ¬(rail ∧ 7 ≤ q.railRun) → p.record = r1 ∧
         (seeds → p.found = .reseeded raw k ∧ p.event = none ∧
           p.qual = { q1 with base := 16 * k, reseed := false, debounce := 0, negRun := 0 }) ∧
         (¬seeds → p.found = .live raw k d thr ∧
           (stuck → p.event = some (.forced .stuck) ∧ p.qual = { q1 with
             state := .idle, pressTime := none, debounce := 0, reseed := true, negRun := if c.rejected then q.negRun else 0 }) ∧
           (¬stuck → p.event = u.2 ∧
             p.qual = if c.rejected then u.1
               else if q.state = .idle ∧ u.1.state = .idle then { u.1 with base := b.1, negRun := b.2 }
               else { u.1 with negRun := 0 })))) ∧
  (∀ (s : State) (m : List Nat) (guard : Nat) (counts : List Count),
     let c := runStages s m guard counts
     let g := s.kq.guard
     let thr := s.kq.settings.guardThr
     let d : Int := (guard : Int) - (g.base / 16 : Nat)
     let w := wetRuns thr g d
     let b := baselineUpdate s.kq.settings.rate w.wet (thr / 2) g.base g.negRun guard d
     (thr = 0 → c.guard = { g with reseed := true, wet := false }) ∧
     (thr ≠ 0 → g.reseed = true → c.guard = { g with base := 16 * guard, reseed := false, negRun := 0 }) ∧
     (thr ≠ 0 → g.reseed = false → c.guard = if c.rejected then w else { w with base := b.1, negRun := b.2 })) ∧
  (∀ (site now : Nat) (rejected : Bool) (p : SitePass),
     let n := snapshotOf site now rejected p
     n.site = site ∧ n.time = now ∧ n.state = p.qual.state ∧ n.rejected = rejected ∧
     (p.found = .noCount → n.raw = none ∧ n.corrected = none ∧ n.base = none ∧ n.delta = none) ∧
     (∀ raw, p.found = .stopped raw → n.raw = some raw ∧ n.corrected = none ∧ n.base = some p.qual.base ∧ n.delta = none) ∧
     (∀ raw k, p.found = .reseeded raw k → n.raw = some raw ∧ n.corrected = some k ∧ n.base = some p.qual.base ∧ n.delta = some 0) ∧
     (∀ raw k d thr, p.found = .live raw k d thr →
       n.raw = some raw ∧ n.corrected = some k ∧ n.base = some p.qual.base ∧ n.delta = some d))

end
end

