-- ==== Sys2Proof/Laws/State.lean ====
section
/-! SUPPORT. What replacing one block of the state leaves of every block: one lemma per field per update. -/

namespace Sys2Proof.Machine

@[simp] theorem State.setKfs_kfs (s : State) (v : Kfs) : (s.setKfs v).kfs = v := rfl
@[simp] theorem State.setKfs_kq (s : State) (v : Kfs) : (s.setKfs v).kq = s.kq := rfl
@[simp] theorem State.setKfs_crm (s : State) (v : Kfs) : (s.setKfs v).crm = s.crm := rfl
@[simp] theorem State.setKfs_mlu (s : State) (v : Kfs) : (s.setKfs v).mlu = s.mlu := rfl
@[simp] theorem State.setKfs_kr (s : State) (v : Kfs) : (s.setKfs v).kr = s.kr := rfl
@[simp] theorem State.setKfs_tq (s : State) (v : Kfs) : (s.setKfs v).tq = s.tq := rfl
@[simp] theorem State.setKfs_gq (s : State) (v : Kfs) : (s.setKfs v).gq = s.gq := rfl
@[simp] theorem State.setKfs_dss (s : State) (v : Kfs) : (s.setKfs v).dss = s.dss := rfl
@[simp] theorem State.setKfs_tpi (s : State) (v : Kfs) : (s.setKfs v).tpi = s.tpi := rfl
@[simp] theorem State.setKfs_blr (s : State) (v : Kfs) : (s.setKfs v).blr = s.blr := rfl
@[simp] theorem State.setKfs_dlp (s : State) (v : Kfs) : (s.setKfs v).dlp = s.dlp := rfl
@[simp] theorem State.setKfs_vp (s : State) (v : Kfs) : (s.setKfs v).vp = s.vp := rfl
@[simp] theorem State.setKfs_axl (s : State) (v : Kfs) : (s.setKfs v).axl = s.axl := rfl
@[simp] theorem State.setKfs_sst (s : State) (v : Kfs) : (s.setKfs v).sst = s.sst := rfl
@[simp] theorem State.setKfs_clock (s : State) (v : Kfs) : (s.setKfs v).clock = s.clock := rfl
@[simp] theorem State.setKfs_held (s : State) (v : Kfs) : (s.setKfs v).held = s.held := rfl
@[simp] theorem State.setKfs_pins (s : State) (v : Kfs) : (s.setKfs v).pins = s.pins := rfl
@[simp] theorem State.setKfs_free (s : State) (v : Kfs) : (s.setKfs v).free = s.free := rfl
@[simp] theorem State.setKfs_pending (s : State) (v : Kfs) : (s.setKfs v).pending = s.pending := rfl
@[simp] theorem State.setKq_kfs (s : State) (v : Kq) : (s.setKq v).kfs = s.kfs := rfl
@[simp] theorem State.setKq_kq (s : State) (v : Kq) : (s.setKq v).kq = v := rfl
@[simp] theorem State.setKq_crm (s : State) (v : Kq) : (s.setKq v).crm = s.crm := rfl
@[simp] theorem State.setKq_mlu (s : State) (v : Kq) : (s.setKq v).mlu = s.mlu := rfl
@[simp] theorem State.setKq_kr (s : State) (v : Kq) : (s.setKq v).kr = s.kr := rfl
@[simp] theorem State.setKq_tq (s : State) (v : Kq) : (s.setKq v).tq = s.tq := rfl
@[simp] theorem State.setKq_gq (s : State) (v : Kq) : (s.setKq v).gq = s.gq := rfl
@[simp] theorem State.setKq_dss (s : State) (v : Kq) : (s.setKq v).dss = s.dss := rfl
@[simp] theorem State.setKq_tpi (s : State) (v : Kq) : (s.setKq v).tpi = s.tpi := rfl
@[simp] theorem State.setKq_blr (s : State) (v : Kq) : (s.setKq v).blr = s.blr := rfl
@[simp] theorem State.setKq_dlp (s : State) (v : Kq) : (s.setKq v).dlp = s.dlp := rfl
@[simp] theorem State.setKq_vp (s : State) (v : Kq) : (s.setKq v).vp = s.vp := rfl
@[simp] theorem State.setKq_axl (s : State) (v : Kq) : (s.setKq v).axl = s.axl := rfl
@[simp] theorem State.setKq_sst (s : State) (v : Kq) : (s.setKq v).sst = s.sst := rfl
@[simp] theorem State.setKq_clock (s : State) (v : Kq) : (s.setKq v).clock = s.clock := rfl
@[simp] theorem State.setKq_held (s : State) (v : Kq) : (s.setKq v).held = s.held := rfl
@[simp] theorem State.setKq_pins (s : State) (v : Kq) : (s.setKq v).pins = s.pins := rfl
@[simp] theorem State.setKq_free (s : State) (v : Kq) : (s.setKq v).free = s.free := rfl
@[simp] theorem State.setKq_pending (s : State) (v : Kq) : (s.setKq v).pending = s.pending := rfl
@[simp] theorem State.setCrm_kfs (s : State) (v : Crm) : (s.setCrm v).kfs = s.kfs := rfl
@[simp] theorem State.setCrm_kq (s : State) (v : Crm) : (s.setCrm v).kq = s.kq := rfl
@[simp] theorem State.setCrm_crm (s : State) (v : Crm) : (s.setCrm v).crm = v := rfl
@[simp] theorem State.setCrm_mlu (s : State) (v : Crm) : (s.setCrm v).mlu = s.mlu := rfl
@[simp] theorem State.setCrm_kr (s : State) (v : Crm) : (s.setCrm v).kr = s.kr := rfl
@[simp] theorem State.setCrm_tq (s : State) (v : Crm) : (s.setCrm v).tq = s.tq := rfl
@[simp] theorem State.setCrm_gq (s : State) (v : Crm) : (s.setCrm v).gq = s.gq := rfl
@[simp] theorem State.setCrm_dss (s : State) (v : Crm) : (s.setCrm v).dss = s.dss := rfl
@[simp] theorem State.setCrm_tpi (s : State) (v : Crm) : (s.setCrm v).tpi = s.tpi := rfl
@[simp] theorem State.setCrm_blr (s : State) (v : Crm) : (s.setCrm v).blr = s.blr := rfl
@[simp] theorem State.setCrm_dlp (s : State) (v : Crm) : (s.setCrm v).dlp = s.dlp := rfl
@[simp] theorem State.setCrm_vp (s : State) (v : Crm) : (s.setCrm v).vp = s.vp := rfl
@[simp] theorem State.setCrm_axl (s : State) (v : Crm) : (s.setCrm v).axl = s.axl := rfl
@[simp] theorem State.setCrm_sst (s : State) (v : Crm) : (s.setCrm v).sst = s.sst := rfl
@[simp] theorem State.setCrm_clock (s : State) (v : Crm) : (s.setCrm v).clock = s.clock := rfl
@[simp] theorem State.setCrm_held (s : State) (v : Crm) : (s.setCrm v).held = s.held := rfl
@[simp] theorem State.setCrm_pins (s : State) (v : Crm) : (s.setCrm v).pins = s.pins := rfl
@[simp] theorem State.setCrm_free (s : State) (v : Crm) : (s.setCrm v).free = s.free := rfl
@[simp] theorem State.setCrm_pending (s : State) (v : Crm) : (s.setCrm v).pending = s.pending := rfl
@[simp] theorem State.setMlu_kfs (s : State) (v : Mlu) : (s.setMlu v).kfs = s.kfs := rfl
@[simp] theorem State.setMlu_kq (s : State) (v : Mlu) : (s.setMlu v).kq = s.kq := rfl
@[simp] theorem State.setMlu_crm (s : State) (v : Mlu) : (s.setMlu v).crm = s.crm := rfl
@[simp] theorem State.setMlu_mlu (s : State) (v : Mlu) : (s.setMlu v).mlu = v := rfl
@[simp] theorem State.setMlu_kr (s : State) (v : Mlu) : (s.setMlu v).kr = s.kr := rfl
@[simp] theorem State.setMlu_tq (s : State) (v : Mlu) : (s.setMlu v).tq = s.tq := rfl
@[simp] theorem State.setMlu_gq (s : State) (v : Mlu) : (s.setMlu v).gq = s.gq := rfl
@[simp] theorem State.setMlu_dss (s : State) (v : Mlu) : (s.setMlu v).dss = s.dss := rfl
@[simp] theorem State.setMlu_tpi (s : State) (v : Mlu) : (s.setMlu v).tpi = s.tpi := rfl
@[simp] theorem State.setMlu_blr (s : State) (v : Mlu) : (s.setMlu v).blr = s.blr := rfl
@[simp] theorem State.setMlu_dlp (s : State) (v : Mlu) : (s.setMlu v).dlp = s.dlp := rfl
@[simp] theorem State.setMlu_vp (s : State) (v : Mlu) : (s.setMlu v).vp = s.vp := rfl
@[simp] theorem State.setMlu_axl (s : State) (v : Mlu) : (s.setMlu v).axl = s.axl := rfl
@[simp] theorem State.setMlu_sst (s : State) (v : Mlu) : (s.setMlu v).sst = s.sst := rfl
@[simp] theorem State.setMlu_clock (s : State) (v : Mlu) : (s.setMlu v).clock = s.clock := rfl
@[simp] theorem State.setMlu_held (s : State) (v : Mlu) : (s.setMlu v).held = s.held := rfl
@[simp] theorem State.setMlu_pins (s : State) (v : Mlu) : (s.setMlu v).pins = s.pins := rfl
@[simp] theorem State.setMlu_free (s : State) (v : Mlu) : (s.setMlu v).free = s.free := rfl
@[simp] theorem State.setMlu_pending (s : State) (v : Mlu) : (s.setMlu v).pending = s.pending := rfl
@[simp] theorem State.setKr_kfs (s : State) (v : Kr) : (s.setKr v).kfs = s.kfs := rfl
@[simp] theorem State.setKr_kq (s : State) (v : Kr) : (s.setKr v).kq = s.kq := rfl
@[simp] theorem State.setKr_crm (s : State) (v : Kr) : (s.setKr v).crm = s.crm := rfl
@[simp] theorem State.setKr_mlu (s : State) (v : Kr) : (s.setKr v).mlu = s.mlu := rfl
@[simp] theorem State.setKr_kr (s : State) (v : Kr) : (s.setKr v).kr = v := rfl
@[simp] theorem State.setKr_tq (s : State) (v : Kr) : (s.setKr v).tq = s.tq := rfl
@[simp] theorem State.setKr_gq (s : State) (v : Kr) : (s.setKr v).gq = s.gq := rfl
@[simp] theorem State.setKr_dss (s : State) (v : Kr) : (s.setKr v).dss = s.dss := rfl
@[simp] theorem State.setKr_tpi (s : State) (v : Kr) : (s.setKr v).tpi = s.tpi := rfl
@[simp] theorem State.setKr_blr (s : State) (v : Kr) : (s.setKr v).blr = s.blr := rfl
@[simp] theorem State.setKr_dlp (s : State) (v : Kr) : (s.setKr v).dlp = s.dlp := rfl
@[simp] theorem State.setKr_vp (s : State) (v : Kr) : (s.setKr v).vp = s.vp := rfl
@[simp] theorem State.setKr_axl (s : State) (v : Kr) : (s.setKr v).axl = s.axl := rfl
@[simp] theorem State.setKr_sst (s : State) (v : Kr) : (s.setKr v).sst = s.sst := rfl
@[simp] theorem State.setKr_clock (s : State) (v : Kr) : (s.setKr v).clock = s.clock := rfl
@[simp] theorem State.setKr_held (s : State) (v : Kr) : (s.setKr v).held = s.held := rfl
@[simp] theorem State.setKr_pins (s : State) (v : Kr) : (s.setKr v).pins = s.pins := rfl
@[simp] theorem State.setKr_free (s : State) (v : Kr) : (s.setKr v).free = s.free := rfl
@[simp] theorem State.setKr_pending (s : State) (v : Kr) : (s.setKr v).pending = s.pending := rfl
@[simp] theorem State.setTq_kfs (s : State) (v : Queue) : (s.setTq v).kfs = s.kfs := rfl
@[simp] theorem State.setTq_kq (s : State) (v : Queue) : (s.setTq v).kq = s.kq := rfl
@[simp] theorem State.setTq_crm (s : State) (v : Queue) : (s.setTq v).crm = s.crm := rfl
@[simp] theorem State.setTq_mlu (s : State) (v : Queue) : (s.setTq v).mlu = s.mlu := rfl
@[simp] theorem State.setTq_kr (s : State) (v : Queue) : (s.setTq v).kr = s.kr := rfl
@[simp] theorem State.setTq_tq (s : State) (v : Queue) : (s.setTq v).tq = v := rfl
@[simp] theorem State.setTq_gq (s : State) (v : Queue) : (s.setTq v).gq = s.gq := rfl
@[simp] theorem State.setTq_dss (s : State) (v : Queue) : (s.setTq v).dss = s.dss := rfl
@[simp] theorem State.setTq_tpi (s : State) (v : Queue) : (s.setTq v).tpi = s.tpi := rfl
@[simp] theorem State.setTq_blr (s : State) (v : Queue) : (s.setTq v).blr = s.blr := rfl
@[simp] theorem State.setTq_dlp (s : State) (v : Queue) : (s.setTq v).dlp = s.dlp := rfl
@[simp] theorem State.setTq_vp (s : State) (v : Queue) : (s.setTq v).vp = s.vp := rfl
@[simp] theorem State.setTq_axl (s : State) (v : Queue) : (s.setTq v).axl = s.axl := rfl
@[simp] theorem State.setTq_sst (s : State) (v : Queue) : (s.setTq v).sst = s.sst := rfl
@[simp] theorem State.setTq_clock (s : State) (v : Queue) : (s.setTq v).clock = s.clock := rfl
@[simp] theorem State.setTq_held (s : State) (v : Queue) : (s.setTq v).held = s.held := rfl
@[simp] theorem State.setTq_pins (s : State) (v : Queue) : (s.setTq v).pins = s.pins := rfl
@[simp] theorem State.setTq_free (s : State) (v : Queue) : (s.setTq v).free = s.free := rfl
@[simp] theorem State.setTq_pending (s : State) (v : Queue) : (s.setTq v).pending = s.pending := rfl
@[simp] theorem State.setGq_kfs (s : State) (v : Queue) : (s.setGq v).kfs = s.kfs := rfl
@[simp] theorem State.setGq_kq (s : State) (v : Queue) : (s.setGq v).kq = s.kq := rfl
@[simp] theorem State.setGq_crm (s : State) (v : Queue) : (s.setGq v).crm = s.crm := rfl
@[simp] theorem State.setGq_mlu (s : State) (v : Queue) : (s.setGq v).mlu = s.mlu := rfl
@[simp] theorem State.setGq_kr (s : State) (v : Queue) : (s.setGq v).kr = s.kr := rfl
@[simp] theorem State.setGq_tq (s : State) (v : Queue) : (s.setGq v).tq = s.tq := rfl
@[simp] theorem State.setGq_gq (s : State) (v : Queue) : (s.setGq v).gq = v := rfl
@[simp] theorem State.setGq_dss (s : State) (v : Queue) : (s.setGq v).dss = s.dss := rfl
@[simp] theorem State.setGq_tpi (s : State) (v : Queue) : (s.setGq v).tpi = s.tpi := rfl
@[simp] theorem State.setGq_blr (s : State) (v : Queue) : (s.setGq v).blr = s.blr := rfl
@[simp] theorem State.setGq_dlp (s : State) (v : Queue) : (s.setGq v).dlp = s.dlp := rfl
@[simp] theorem State.setGq_vp (s : State) (v : Queue) : (s.setGq v).vp = s.vp := rfl
@[simp] theorem State.setGq_axl (s : State) (v : Queue) : (s.setGq v).axl = s.axl := rfl
@[simp] theorem State.setGq_sst (s : State) (v : Queue) : (s.setGq v).sst = s.sst := rfl
@[simp] theorem State.setGq_clock (s : State) (v : Queue) : (s.setGq v).clock = s.clock := rfl
@[simp] theorem State.setGq_held (s : State) (v : Queue) : (s.setGq v).held = s.held := rfl
@[simp] theorem State.setGq_pins (s : State) (v : Queue) : (s.setGq v).pins = s.pins := rfl
@[simp] theorem State.setGq_free (s : State) (v : Queue) : (s.setGq v).free = s.free := rfl
@[simp] theorem State.setGq_pending (s : State) (v : Queue) : (s.setGq v).pending = s.pending := rfl
@[simp] theorem State.setDss_kfs (s : State) (v : Dss) : (s.setDss v).kfs = s.kfs := rfl
@[simp] theorem State.setDss_kq (s : State) (v : Dss) : (s.setDss v).kq = s.kq := rfl
@[simp] theorem State.setDss_crm (s : State) (v : Dss) : (s.setDss v).crm = s.crm := rfl
@[simp] theorem State.setDss_mlu (s : State) (v : Dss) : (s.setDss v).mlu = s.mlu := rfl
@[simp] theorem State.setDss_kr (s : State) (v : Dss) : (s.setDss v).kr = s.kr := rfl
@[simp] theorem State.setDss_tq (s : State) (v : Dss) : (s.setDss v).tq = s.tq := rfl
@[simp] theorem State.setDss_gq (s : State) (v : Dss) : (s.setDss v).gq = s.gq := rfl
@[simp] theorem State.setDss_dss (s : State) (v : Dss) : (s.setDss v).dss = v := rfl
@[simp] theorem State.setDss_tpi (s : State) (v : Dss) : (s.setDss v).tpi = s.tpi := rfl
@[simp] theorem State.setDss_blr (s : State) (v : Dss) : (s.setDss v).blr = s.blr := rfl
@[simp] theorem State.setDss_dlp (s : State) (v : Dss) : (s.setDss v).dlp = s.dlp := rfl
@[simp] theorem State.setDss_vp (s : State) (v : Dss) : (s.setDss v).vp = s.vp := rfl
@[simp] theorem State.setDss_axl (s : State) (v : Dss) : (s.setDss v).axl = s.axl := rfl
@[simp] theorem State.setDss_sst (s : State) (v : Dss) : (s.setDss v).sst = s.sst := rfl
@[simp] theorem State.setDss_clock (s : State) (v : Dss) : (s.setDss v).clock = s.clock := rfl
@[simp] theorem State.setDss_held (s : State) (v : Dss) : (s.setDss v).held = s.held := rfl
@[simp] theorem State.setDss_pins (s : State) (v : Dss) : (s.setDss v).pins = s.pins := rfl
@[simp] theorem State.setDss_free (s : State) (v : Dss) : (s.setDss v).free = s.free := rfl
@[simp] theorem State.setDss_pending (s : State) (v : Dss) : (s.setDss v).pending = s.pending := rfl
@[simp] theorem State.setTpi_kfs (s : State) (v : Tpi) : (s.setTpi v).kfs = s.kfs := rfl
@[simp] theorem State.setTpi_kq (s : State) (v : Tpi) : (s.setTpi v).kq = s.kq := rfl
@[simp] theorem State.setTpi_crm (s : State) (v : Tpi) : (s.setTpi v).crm = s.crm := rfl
@[simp] theorem State.setTpi_mlu (s : State) (v : Tpi) : (s.setTpi v).mlu = s.mlu := rfl
@[simp] theorem State.setTpi_kr (s : State) (v : Tpi) : (s.setTpi v).kr = s.kr := rfl
@[simp] theorem State.setTpi_tq (s : State) (v : Tpi) : (s.setTpi v).tq = s.tq := rfl
@[simp] theorem State.setTpi_gq (s : State) (v : Tpi) : (s.setTpi v).gq = s.gq := rfl
@[simp] theorem State.setTpi_dss (s : State) (v : Tpi) : (s.setTpi v).dss = s.dss := rfl
@[simp] theorem State.setTpi_tpi (s : State) (v : Tpi) : (s.setTpi v).tpi = v := rfl
@[simp] theorem State.setTpi_blr (s : State) (v : Tpi) : (s.setTpi v).blr = s.blr := rfl
@[simp] theorem State.setTpi_dlp (s : State) (v : Tpi) : (s.setTpi v).dlp = s.dlp := rfl
@[simp] theorem State.setTpi_vp (s : State) (v : Tpi) : (s.setTpi v).vp = s.vp := rfl
@[simp] theorem State.setTpi_axl (s : State) (v : Tpi) : (s.setTpi v).axl = s.axl := rfl
@[simp] theorem State.setTpi_sst (s : State) (v : Tpi) : (s.setTpi v).sst = s.sst := rfl
@[simp] theorem State.setTpi_clock (s : State) (v : Tpi) : (s.setTpi v).clock = s.clock := rfl
@[simp] theorem State.setTpi_held (s : State) (v : Tpi) : (s.setTpi v).held = s.held := rfl
@[simp] theorem State.setTpi_pins (s : State) (v : Tpi) : (s.setTpi v).pins = s.pins := rfl
@[simp] theorem State.setTpi_free (s : State) (v : Tpi) : (s.setTpi v).free = s.free := rfl
@[simp] theorem State.setTpi_pending (s : State) (v : Tpi) : (s.setTpi v).pending = s.pending := rfl
@[simp] theorem State.setBlr_kfs (s : State) (v : Blr) : (s.setBlr v).kfs = s.kfs := rfl
@[simp] theorem State.setBlr_kq (s : State) (v : Blr) : (s.setBlr v).kq = s.kq := rfl
@[simp] theorem State.setBlr_crm (s : State) (v : Blr) : (s.setBlr v).crm = s.crm := rfl
@[simp] theorem State.setBlr_mlu (s : State) (v : Blr) : (s.setBlr v).mlu = s.mlu := rfl
@[simp] theorem State.setBlr_kr (s : State) (v : Blr) : (s.setBlr v).kr = s.kr := rfl
@[simp] theorem State.setBlr_tq (s : State) (v : Blr) : (s.setBlr v).tq = s.tq := rfl
@[simp] theorem State.setBlr_gq (s : State) (v : Blr) : (s.setBlr v).gq = s.gq := rfl
@[simp] theorem State.setBlr_dss (s : State) (v : Blr) : (s.setBlr v).dss = s.dss := rfl
@[simp] theorem State.setBlr_tpi (s : State) (v : Blr) : (s.setBlr v).tpi = s.tpi := rfl
@[simp] theorem State.setBlr_blr (s : State) (v : Blr) : (s.setBlr v).blr = v := rfl
@[simp] theorem State.setBlr_dlp (s : State) (v : Blr) : (s.setBlr v).dlp = s.dlp := rfl
@[simp] theorem State.setBlr_vp (s : State) (v : Blr) : (s.setBlr v).vp = s.vp := rfl
@[simp] theorem State.setBlr_axl (s : State) (v : Blr) : (s.setBlr v).axl = s.axl := rfl
@[simp] theorem State.setBlr_sst (s : State) (v : Blr) : (s.setBlr v).sst = s.sst := rfl
@[simp] theorem State.setBlr_clock (s : State) (v : Blr) : (s.setBlr v).clock = s.clock := rfl
@[simp] theorem State.setBlr_held (s : State) (v : Blr) : (s.setBlr v).held = s.held := rfl
@[simp] theorem State.setBlr_pins (s : State) (v : Blr) : (s.setBlr v).pins = s.pins := rfl
@[simp] theorem State.setBlr_free (s : State) (v : Blr) : (s.setBlr v).free = s.free := rfl
@[simp] theorem State.setBlr_pending (s : State) (v : Blr) : (s.setBlr v).pending = s.pending := rfl
@[simp] theorem State.setDlp_kfs (s : State) (v : Dlp) : (s.setDlp v).kfs = s.kfs := rfl
@[simp] theorem State.setDlp_kq (s : State) (v : Dlp) : (s.setDlp v).kq = s.kq := rfl
@[simp] theorem State.setDlp_crm (s : State) (v : Dlp) : (s.setDlp v).crm = s.crm := rfl
@[simp] theorem State.setDlp_mlu (s : State) (v : Dlp) : (s.setDlp v).mlu = s.mlu := rfl
@[simp] theorem State.setDlp_kr (s : State) (v : Dlp) : (s.setDlp v).kr = s.kr := rfl
@[simp] theorem State.setDlp_tq (s : State) (v : Dlp) : (s.setDlp v).tq = s.tq := rfl
@[simp] theorem State.setDlp_gq (s : State) (v : Dlp) : (s.setDlp v).gq = s.gq := rfl
@[simp] theorem State.setDlp_dss (s : State) (v : Dlp) : (s.setDlp v).dss = s.dss := rfl
@[simp] theorem State.setDlp_tpi (s : State) (v : Dlp) : (s.setDlp v).tpi = s.tpi := rfl
@[simp] theorem State.setDlp_blr (s : State) (v : Dlp) : (s.setDlp v).blr = s.blr := rfl
@[simp] theorem State.setDlp_dlp (s : State) (v : Dlp) : (s.setDlp v).dlp = v := rfl
@[simp] theorem State.setDlp_vp (s : State) (v : Dlp) : (s.setDlp v).vp = s.vp := rfl
@[simp] theorem State.setDlp_axl (s : State) (v : Dlp) : (s.setDlp v).axl = s.axl := rfl
@[simp] theorem State.setDlp_sst (s : State) (v : Dlp) : (s.setDlp v).sst = s.sst := rfl
@[simp] theorem State.setDlp_clock (s : State) (v : Dlp) : (s.setDlp v).clock = s.clock := rfl
@[simp] theorem State.setDlp_held (s : State) (v : Dlp) : (s.setDlp v).held = s.held := rfl
@[simp] theorem State.setDlp_pins (s : State) (v : Dlp) : (s.setDlp v).pins = s.pins := rfl
@[simp] theorem State.setDlp_free (s : State) (v : Dlp) : (s.setDlp v).free = s.free := rfl
@[simp] theorem State.setDlp_pending (s : State) (v : Dlp) : (s.setDlp v).pending = s.pending := rfl
@[simp] theorem State.setVp_kfs (s : State) (v : Vp) : (s.setVp v).kfs = s.kfs := rfl
@[simp] theorem State.setVp_kq (s : State) (v : Vp) : (s.setVp v).kq = s.kq := rfl
@[simp] theorem State.setVp_crm (s : State) (v : Vp) : (s.setVp v).crm = s.crm := rfl
@[simp] theorem State.setVp_mlu (s : State) (v : Vp) : (s.setVp v).mlu = s.mlu := rfl
@[simp] theorem State.setVp_kr (s : State) (v : Vp) : (s.setVp v).kr = s.kr := rfl
@[simp] theorem State.setVp_tq (s : State) (v : Vp) : (s.setVp v).tq = s.tq := rfl
@[simp] theorem State.setVp_gq (s : State) (v : Vp) : (s.setVp v).gq = s.gq := rfl
@[simp] theorem State.setVp_dss (s : State) (v : Vp) : (s.setVp v).dss = s.dss := rfl
@[simp] theorem State.setVp_tpi (s : State) (v : Vp) : (s.setVp v).tpi = s.tpi := rfl
@[simp] theorem State.setVp_blr (s : State) (v : Vp) : (s.setVp v).blr = s.blr := rfl
@[simp] theorem State.setVp_dlp (s : State) (v : Vp) : (s.setVp v).dlp = s.dlp := rfl
@[simp] theorem State.setVp_vp (s : State) (v : Vp) : (s.setVp v).vp = v := rfl
@[simp] theorem State.setVp_axl (s : State) (v : Vp) : (s.setVp v).axl = s.axl := rfl
@[simp] theorem State.setVp_sst (s : State) (v : Vp) : (s.setVp v).sst = s.sst := rfl
@[simp] theorem State.setVp_clock (s : State) (v : Vp) : (s.setVp v).clock = s.clock := rfl
@[simp] theorem State.setVp_held (s : State) (v : Vp) : (s.setVp v).held = s.held := rfl
@[simp] theorem State.setVp_pins (s : State) (v : Vp) : (s.setVp v).pins = s.pins := rfl
@[simp] theorem State.setVp_free (s : State) (v : Vp) : (s.setVp v).free = s.free := rfl
@[simp] theorem State.setVp_pending (s : State) (v : Vp) : (s.setVp v).pending = s.pending := rfl
@[simp] theorem State.setAxl_kfs (s : State) (v : Axl) : (s.setAxl v).kfs = s.kfs := rfl
@[simp] theorem State.setAxl_kq (s : State) (v : Axl) : (s.setAxl v).kq = s.kq := rfl
@[simp] theorem State.setAxl_crm (s : State) (v : Axl) : (s.setAxl v).crm = s.crm := rfl
@[simp] theorem State.setAxl_mlu (s : State) (v : Axl) : (s.setAxl v).mlu = s.mlu := rfl
@[simp] theorem State.setAxl_kr (s : State) (v : Axl) : (s.setAxl v).kr = s.kr := rfl
@[simp] theorem State.setAxl_tq (s : State) (v : Axl) : (s.setAxl v).tq = s.tq := rfl
@[simp] theorem State.setAxl_gq (s : State) (v : Axl) : (s.setAxl v).gq = s.gq := rfl
@[simp] theorem State.setAxl_dss (s : State) (v : Axl) : (s.setAxl v).dss = s.dss := rfl
@[simp] theorem State.setAxl_tpi (s : State) (v : Axl) : (s.setAxl v).tpi = s.tpi := rfl
@[simp] theorem State.setAxl_blr (s : State) (v : Axl) : (s.setAxl v).blr = s.blr := rfl
@[simp] theorem State.setAxl_dlp (s : State) (v : Axl) : (s.setAxl v).dlp = s.dlp := rfl
@[simp] theorem State.setAxl_vp (s : State) (v : Axl) : (s.setAxl v).vp = s.vp := rfl
@[simp] theorem State.setAxl_axl (s : State) (v : Axl) : (s.setAxl v).axl = v := rfl
@[simp] theorem State.setAxl_sst (s : State) (v : Axl) : (s.setAxl v).sst = s.sst := rfl
@[simp] theorem State.setAxl_clock (s : State) (v : Axl) : (s.setAxl v).clock = s.clock := rfl
@[simp] theorem State.setAxl_held (s : State) (v : Axl) : (s.setAxl v).held = s.held := rfl
@[simp] theorem State.setAxl_pins (s : State) (v : Axl) : (s.setAxl v).pins = s.pins := rfl
@[simp] theorem State.setAxl_free (s : State) (v : Axl) : (s.setAxl v).free = s.free := rfl
@[simp] theorem State.setAxl_pending (s : State) (v : Axl) : (s.setAxl v).pending = s.pending := rfl
@[simp] theorem State.setSst_kfs (s : State) (v : Sst) : (s.setSst v).kfs = s.kfs := rfl
@[simp] theorem State.setSst_kq (s : State) (v : Sst) : (s.setSst v).kq = s.kq := rfl
@[simp] theorem State.setSst_crm (s : State) (v : Sst) : (s.setSst v).crm = s.crm := rfl
@[simp] theorem State.setSst_mlu (s : State) (v : Sst) : (s.setSst v).mlu = s.mlu := rfl
@[simp] theorem State.setSst_kr (s : State) (v : Sst) : (s.setSst v).kr = s.kr := rfl
@[simp] theorem State.setSst_tq (s : State) (v : Sst) : (s.setSst v).tq = s.tq := rfl
@[simp] theorem State.setSst_gq (s : State) (v : Sst) : (s.setSst v).gq = s.gq := rfl
@[simp] theorem State.setSst_dss (s : State) (v : Sst) : (s.setSst v).dss = s.dss := rfl
@[simp] theorem State.setSst_tpi (s : State) (v : Sst) : (s.setSst v).tpi = s.tpi := rfl
@[simp] theorem State.setSst_blr (s : State) (v : Sst) : (s.setSst v).blr = s.blr := rfl
@[simp] theorem State.setSst_dlp (s : State) (v : Sst) : (s.setSst v).dlp = s.dlp := rfl
@[simp] theorem State.setSst_vp (s : State) (v : Sst) : (s.setSst v).vp = s.vp := rfl
@[simp] theorem State.setSst_axl (s : State) (v : Sst) : (s.setSst v).axl = s.axl := rfl
@[simp] theorem State.setSst_sst (s : State) (v : Sst) : (s.setSst v).sst = v := rfl
@[simp] theorem State.setSst_clock (s : State) (v : Sst) : (s.setSst v).clock = s.clock := rfl
@[simp] theorem State.setSst_held (s : State) (v : Sst) : (s.setSst v).held = s.held := rfl
@[simp] theorem State.setSst_pins (s : State) (v : Sst) : (s.setSst v).pins = s.pins := rfl
@[simp] theorem State.setSst_free (s : State) (v : Sst) : (s.setSst v).free = s.free := rfl
@[simp] theorem State.setSst_pending (s : State) (v : Sst) : (s.setSst v).pending = s.pending := rfl
@[simp] theorem State.setClock_kfs (s : State) (v : Nat) : (s.setClock v).kfs = s.kfs := rfl
@[simp] theorem State.setClock_kq (s : State) (v : Nat) : (s.setClock v).kq = s.kq := rfl
@[simp] theorem State.setClock_crm (s : State) (v : Nat) : (s.setClock v).crm = s.crm := rfl
@[simp] theorem State.setClock_mlu (s : State) (v : Nat) : (s.setClock v).mlu = s.mlu := rfl
@[simp] theorem State.setClock_kr (s : State) (v : Nat) : (s.setClock v).kr = s.kr := rfl
@[simp] theorem State.setClock_tq (s : State) (v : Nat) : (s.setClock v).tq = s.tq := rfl
@[simp] theorem State.setClock_gq (s : State) (v : Nat) : (s.setClock v).gq = s.gq := rfl
@[simp] theorem State.setClock_dss (s : State) (v : Nat) : (s.setClock v).dss = s.dss := rfl
@[simp] theorem State.setClock_tpi (s : State) (v : Nat) : (s.setClock v).tpi = s.tpi := rfl
@[simp] theorem State.setClock_blr (s : State) (v : Nat) : (s.setClock v).blr = s.blr := rfl
@[simp] theorem State.setClock_dlp (s : State) (v : Nat) : (s.setClock v).dlp = s.dlp := rfl
@[simp] theorem State.setClock_vp (s : State) (v : Nat) : (s.setClock v).vp = s.vp := rfl
@[simp] theorem State.setClock_axl (s : State) (v : Nat) : (s.setClock v).axl = s.axl := rfl
@[simp] theorem State.setClock_sst (s : State) (v : Nat) : (s.setClock v).sst = s.sst := rfl
@[simp] theorem State.setClock_clock (s : State) (v : Nat) : (s.setClock v).clock = v := rfl
@[simp] theorem State.setClock_held (s : State) (v : Nat) : (s.setClock v).held = s.held := rfl
@[simp] theorem State.setClock_pins (s : State) (v : Nat) : (s.setClock v).pins = s.pins := rfl
@[simp] theorem State.setClock_free (s : State) (v : Nat) : (s.setClock v).free = s.free := rfl
@[simp] theorem State.setClock_pending (s : State) (v : Nat) : (s.setClock v).pending = s.pending := rfl
@[simp] theorem State.setHeld_kfs (s : State) (v : Bool) : (s.setHeld v).kfs = s.kfs := rfl
@[simp] theorem State.setHeld_kq (s : State) (v : Bool) : (s.setHeld v).kq = s.kq := rfl
@[simp] theorem State.setHeld_crm (s : State) (v : Bool) : (s.setHeld v).crm = s.crm := rfl
@[simp] theorem State.setHeld_mlu (s : State) (v : Bool) : (s.setHeld v).mlu = s.mlu := rfl
@[simp] theorem State.setHeld_kr (s : State) (v : Bool) : (s.setHeld v).kr = s.kr := rfl
@[simp] theorem State.setHeld_tq (s : State) (v : Bool) : (s.setHeld v).tq = s.tq := rfl
@[simp] theorem State.setHeld_gq (s : State) (v : Bool) : (s.setHeld v).gq = s.gq := rfl
@[simp] theorem State.setHeld_dss (s : State) (v : Bool) : (s.setHeld v).dss = s.dss := rfl
@[simp] theorem State.setHeld_tpi (s : State) (v : Bool) : (s.setHeld v).tpi = s.tpi := rfl
@[simp] theorem State.setHeld_blr (s : State) (v : Bool) : (s.setHeld v).blr = s.blr := rfl
@[simp] theorem State.setHeld_dlp (s : State) (v : Bool) : (s.setHeld v).dlp = s.dlp := rfl
@[simp] theorem State.setHeld_vp (s : State) (v : Bool) : (s.setHeld v).vp = s.vp := rfl
@[simp] theorem State.setHeld_axl (s : State) (v : Bool) : (s.setHeld v).axl = s.axl := rfl
@[simp] theorem State.setHeld_sst (s : State) (v : Bool) : (s.setHeld v).sst = s.sst := rfl
@[simp] theorem State.setHeld_clock (s : State) (v : Bool) : (s.setHeld v).clock = s.clock := rfl
@[simp] theorem State.setHeld_held (s : State) (v : Bool) : (s.setHeld v).held = v := rfl
@[simp] theorem State.setHeld_pins (s : State) (v : Bool) : (s.setHeld v).pins = s.pins := rfl
@[simp] theorem State.setHeld_free (s : State) (v : Bool) : (s.setHeld v).free = s.free := rfl
@[simp] theorem State.setHeld_pending (s : State) (v : Bool) : (s.setHeld v).pending = s.pending := rfl
@[simp] theorem State.setPins_kfs (s : State) (v : Pins) : (s.setPins v).kfs = s.kfs := rfl
@[simp] theorem State.setPins_kq (s : State) (v : Pins) : (s.setPins v).kq = s.kq := rfl
@[simp] theorem State.setPins_crm (s : State) (v : Pins) : (s.setPins v).crm = s.crm := rfl
@[simp] theorem State.setPins_mlu (s : State) (v : Pins) : (s.setPins v).mlu = s.mlu := rfl
@[simp] theorem State.setPins_kr (s : State) (v : Pins) : (s.setPins v).kr = s.kr := rfl
@[simp] theorem State.setPins_tq (s : State) (v : Pins) : (s.setPins v).tq = s.tq := rfl
@[simp] theorem State.setPins_gq (s : State) (v : Pins) : (s.setPins v).gq = s.gq := rfl
@[simp] theorem State.setPins_dss (s : State) (v : Pins) : (s.setPins v).dss = s.dss := rfl
@[simp] theorem State.setPins_tpi (s : State) (v : Pins) : (s.setPins v).tpi = s.tpi := rfl
@[simp] theorem State.setPins_blr (s : State) (v : Pins) : (s.setPins v).blr = s.blr := rfl
@[simp] theorem State.setPins_dlp (s : State) (v : Pins) : (s.setPins v).dlp = s.dlp := rfl
@[simp] theorem State.setPins_vp (s : State) (v : Pins) : (s.setPins v).vp = s.vp := rfl
@[simp] theorem State.setPins_axl (s : State) (v : Pins) : (s.setPins v).axl = s.axl := rfl
@[simp] theorem State.setPins_sst (s : State) (v : Pins) : (s.setPins v).sst = s.sst := rfl
@[simp] theorem State.setPins_clock (s : State) (v : Pins) : (s.setPins v).clock = s.clock := rfl
@[simp] theorem State.setPins_held (s : State) (v : Pins) : (s.setPins v).held = s.held := rfl
@[simp] theorem State.setPins_pins (s : State) (v : Pins) : (s.setPins v).pins = v := rfl
@[simp] theorem State.setPins_free (s : State) (v : Pins) : (s.setPins v).free = s.free := rfl
@[simp] theorem State.setPins_pending (s : State) (v : Pins) : (s.setPins v).pending = s.pending := rfl
@[simp] theorem State.setFree_kfs (s : State) (v : Nat) : (s.setFree v).kfs = s.kfs := rfl
@[simp] theorem State.setFree_kq (s : State) (v : Nat) : (s.setFree v).kq = s.kq := rfl
@[simp] theorem State.setFree_crm (s : State) (v : Nat) : (s.setFree v).crm = s.crm := rfl
@[simp] theorem State.setFree_mlu (s : State) (v : Nat) : (s.setFree v).mlu = s.mlu := rfl
@[simp] theorem State.setFree_kr (s : State) (v : Nat) : (s.setFree v).kr = s.kr := rfl
@[simp] theorem State.setFree_tq (s : State) (v : Nat) : (s.setFree v).tq = s.tq := rfl
@[simp] theorem State.setFree_gq (s : State) (v : Nat) : (s.setFree v).gq = s.gq := rfl
@[simp] theorem State.setFree_dss (s : State) (v : Nat) : (s.setFree v).dss = s.dss := rfl
@[simp] theorem State.setFree_tpi (s : State) (v : Nat) : (s.setFree v).tpi = s.tpi := rfl
@[simp] theorem State.setFree_blr (s : State) (v : Nat) : (s.setFree v).blr = s.blr := rfl
@[simp] theorem State.setFree_dlp (s : State) (v : Nat) : (s.setFree v).dlp = s.dlp := rfl
@[simp] theorem State.setFree_vp (s : State) (v : Nat) : (s.setFree v).vp = s.vp := rfl
@[simp] theorem State.setFree_axl (s : State) (v : Nat) : (s.setFree v).axl = s.axl := rfl
@[simp] theorem State.setFree_sst (s : State) (v : Nat) : (s.setFree v).sst = s.sst := rfl
@[simp] theorem State.setFree_clock (s : State) (v : Nat) : (s.setFree v).clock = s.clock := rfl
@[simp] theorem State.setFree_held (s : State) (v : Nat) : (s.setFree v).held = s.held := rfl
@[simp] theorem State.setFree_pins (s : State) (v : Nat) : (s.setFree v).pins = s.pins := rfl
@[simp] theorem State.setFree_free (s : State) (v : Nat) : (s.setFree v).free = v := rfl
@[simp] theorem State.setFree_pending (s : State) (v : Nat) : (s.setFree v).pending = s.pending := rfl
@[simp] theorem State.setPending_kfs (s : State) (v : List Instr) : (s.setPending v).kfs = s.kfs := rfl
@[simp] theorem State.setPending_kq (s : State) (v : List Instr) : (s.setPending v).kq = s.kq := rfl
@[simp] theorem State.setPending_crm (s : State) (v : List Instr) : (s.setPending v).crm = s.crm := rfl
@[simp] theorem State.setPending_mlu (s : State) (v : List Instr) : (s.setPending v).mlu = s.mlu := rfl
@[simp] theorem State.setPending_kr (s : State) (v : List Instr) : (s.setPending v).kr = s.kr := rfl
@[simp] theorem State.setPending_tq (s : State) (v : List Instr) : (s.setPending v).tq = s.tq := rfl
@[simp] theorem State.setPending_gq (s : State) (v : List Instr) : (s.setPending v).gq = s.gq := rfl
@[simp] theorem State.setPending_dss (s : State) (v : List Instr) : (s.setPending v).dss = s.dss := rfl
@[simp] theorem State.setPending_tpi (s : State) (v : List Instr) : (s.setPending v).tpi = s.tpi := rfl
@[simp] theorem State.setPending_blr (s : State) (v : List Instr) : (s.setPending v).blr = s.blr := rfl
@[simp] theorem State.setPending_dlp (s : State) (v : List Instr) : (s.setPending v).dlp = s.dlp := rfl
@[simp] theorem State.setPending_vp (s : State) (v : List Instr) : (s.setPending v).vp = s.vp := rfl
@[simp] theorem State.setPending_axl (s : State) (v : List Instr) : (s.setPending v).axl = s.axl := rfl
@[simp] theorem State.setPending_sst (s : State) (v : List Instr) : (s.setPending v).sst = s.sst := rfl
@[simp] theorem State.setPending_clock (s : State) (v : List Instr) : (s.setPending v).clock = s.clock := rfl
@[simp] theorem State.setPending_held (s : State) (v : List Instr) : (s.setPending v).held = s.held := rfl
@[simp] theorem State.setPending_pins (s : State) (v : List Instr) : (s.setPending v).pins = s.pins := rfl
@[simp] theorem State.setPending_free (s : State) (v : List Instr) : (s.setPending v).free = s.free := rfl
@[simp] theorem State.setPending_pending (s : State) (v : List Instr) : (s.setPending v).pending = v := rfl

end Sys2Proof.Machine
end

