-- ==== Sys2Proof/Laws/Frames.lean ====
section
/-! SUPPORT. What the shared operations leave alone: for each operation, one lemma for each block that it never changes. -/

namespace Sys2Proof.Machine


@[simp] theorem setTabletNotices_kfs (a b : NoticeWord) (s : State) : (setTabletNotices a b s).kfs = s.kfs := by simp only [setTabletNotices]; simp
@[simp] theorem setTabletNotices_kq (a b : NoticeWord) (s : State) : (setTabletNotices a b s).kq = s.kq := by simp only [setTabletNotices]; simp
@[simp] theorem setTabletNotices_crm (a b : NoticeWord) (s : State) : (setTabletNotices a b s).crm = s.crm := by simp only [setTabletNotices]; simp
@[simp] theorem setTabletNotices_mlu (a b : NoticeWord) (s : State) : (setTabletNotices a b s).mlu = s.mlu := by simp only [setTabletNotices]; simp
@[simp] theorem setTabletNotices_kr (a b : NoticeWord) (s : State) : (setTabletNotices a b s).kr = s.kr := by simp only [setTabletNotices]; simp
@[simp] theorem setTabletNotices_tq (a b : NoticeWord) (s : State) : (setTabletNotices a b s).tq = s.tq := by simp only [setTabletNotices]; simp
@[simp] theorem setTabletNotices_gq (a b : NoticeWord) (s : State) : (setTabletNotices a b s).gq = s.gq := by simp only [setTabletNotices]; simp
@[simp] theorem setTabletNotices_dss (a b : NoticeWord) (s : State) : (setTabletNotices a b s).dss = s.dss := by simp only [setTabletNotices]; simp
@[simp] theorem setTabletNotices_tpi (a b : NoticeWord) (s : State) : (setTabletNotices a b s).tpi = s.tpi := by simp only [setTabletNotices]; simp
@[simp] theorem setTabletNotices_blr (a b : NoticeWord) (s : State) : (setTabletNotices a b s).blr = s.blr := by simp only [setTabletNotices]; simp
@[simp] theorem setTabletNotices_vp (a b : NoticeWord) (s : State) : (setTabletNotices a b s).vp = s.vp := by simp only [setTabletNotices]; simp
@[simp] theorem setTabletNotices_axl (a b : NoticeWord) (s : State) : (setTabletNotices a b s).axl = s.axl := by simp only [setTabletNotices]; simp
@[simp] theorem setTabletNotices_sst (a b : NoticeWord) (s : State) : (setTabletNotices a b s).sst = s.sst := by simp only [setTabletNotices]; simp
@[simp] theorem setTabletNotices_clock (a b : NoticeWord) (s : State) : (setTabletNotices a b s).clock = s.clock := by simp only [setTabletNotices]; simp
@[simp] theorem setTabletNotices_held (a b : NoticeWord) (s : State) : (setTabletNotices a b s).held = s.held := by simp only [setTabletNotices]; simp
@[simp] theorem setTabletNotices_pins (a b : NoticeWord) (s : State) : (setTabletNotices a b s).pins = s.pins := by simp only [setTabletNotices]; simp
@[simp] theorem setTabletNotices_free (a b : NoticeWord) (s : State) : (setTabletNotices a b s).free = s.free := by simp only [setTabletNotices]; simp
@[simp] theorem setTabletNotices_pending (a b : NoticeWord) (s : State) : (setTabletNotices a b s).pending = s.pending := by simp only [setTabletNotices]; simp

@[simp] theorem setGatewayNotices_kfs (a b : NoticeWord) (s : State) : (setGatewayNotices a b s).kfs = s.kfs := by simp only [setGatewayNotices]; simp
@[simp] theorem setGatewayNotices_kq (a b : NoticeWord) (s : State) : (setGatewayNotices a b s).kq = s.kq := by simp only [setGatewayNotices]; simp
@[simp] theorem setGatewayNotices_crm (a b : NoticeWord) (s : State) : (setGatewayNotices a b s).crm = s.crm := by simp only [setGatewayNotices]; simp
@[simp] theorem setGatewayNotices_mlu (a b : NoticeWord) (s : State) : (setGatewayNotices a b s).mlu = s.mlu := by simp only [setGatewayNotices]; simp
@[simp] theorem setGatewayNotices_kr (a b : NoticeWord) (s : State) : (setGatewayNotices a b s).kr = s.kr := by simp only [setGatewayNotices]; simp
@[simp] theorem setGatewayNotices_tq (a b : NoticeWord) (s : State) : (setGatewayNotices a b s).tq = s.tq := by simp only [setGatewayNotices]; simp
@[simp] theorem setGatewayNotices_gq (a b : NoticeWord) (s : State) : (setGatewayNotices a b s).gq = s.gq := by simp only [setGatewayNotices]; simp
@[simp] theorem setGatewayNotices_dss (a b : NoticeWord) (s : State) : (setGatewayNotices a b s).dss = s.dss := by simp only [setGatewayNotices]; simp
@[simp] theorem setGatewayNotices_tpi (a b : NoticeWord) (s : State) : (setGatewayNotices a b s).tpi = s.tpi := by simp only [setGatewayNotices]; simp
@[simp] theorem setGatewayNotices_blr (a b : NoticeWord) (s : State) : (setGatewayNotices a b s).blr = s.blr := by simp only [setGatewayNotices]; simp
@[simp] theorem setGatewayNotices_dlp (a b : NoticeWord) (s : State) : (setGatewayNotices a b s).dlp = s.dlp := by simp only [setGatewayNotices]; simp
@[simp] theorem setGatewayNotices_axl (a b : NoticeWord) (s : State) : (setGatewayNotices a b s).axl = s.axl := by simp only [setGatewayNotices]; simp
@[simp] theorem setGatewayNotices_sst (a b : NoticeWord) (s : State) : (setGatewayNotices a b s).sst = s.sst := by simp only [setGatewayNotices]; simp
@[simp] theorem setGatewayNotices_clock (a b : NoticeWord) (s : State) : (setGatewayNotices a b s).clock = s.clock := by simp only [setGatewayNotices]; simp
@[simp] theorem setGatewayNotices_held (a b : NoticeWord) (s : State) : (setGatewayNotices a b s).held = s.held := by simp only [setGatewayNotices]; simp
@[simp] theorem setGatewayNotices_pins (a b : NoticeWord) (s : State) : (setGatewayNotices a b s).pins = s.pins := by simp only [setGatewayNotices]; simp
@[simp] theorem setGatewayNotices_free (a b : NoticeWord) (s : State) : (setGatewayNotices a b s).free = s.free := by simp only [setGatewayNotices]; simp
@[simp] theorem setGatewayNotices_pending (a b : NoticeWord) (s : State) : (setGatewayNotices a b s).pending = s.pending := by simp only [setGatewayNotices]; simp

@[simp] theorem raiseFor_kfs (m : Master) (n : Notice) (s : State) : (raiseFor m n s).kfs = s.kfs := by cases m <;> simp [raiseFor]
@[simp] theorem raiseFor_kq (m : Master) (n : Notice) (s : State) : (raiseFor m n s).kq = s.kq := by cases m <;> simp [raiseFor]
@[simp] theorem raiseFor_crm (m : Master) (n : Notice) (s : State) : (raiseFor m n s).crm = s.crm := by cases m <;> simp [raiseFor]
@[simp] theorem raiseFor_mlu (m : Master) (n : Notice) (s : State) : (raiseFor m n s).mlu = s.mlu := by cases m <;> simp [raiseFor]
@[simp] theorem raiseFor_kr (m : Master) (n : Notice) (s : State) : (raiseFor m n s).kr = s.kr := by cases m <;> simp [raiseFor]
@[simp] theorem raiseFor_tq (m : Master) (n : Notice) (s : State) : (raiseFor m n s).tq = s.tq := by cases m <;> simp [raiseFor]
@[simp] theorem raiseFor_gq (m : Master) (n : Notice) (s : State) : (raiseFor m n s).gq = s.gq := by cases m <;> simp [raiseFor]
@[simp] theorem raiseFor_dss (m : Master) (n : Notice) (s : State) : (raiseFor m n s).dss = s.dss := by cases m <;> simp [raiseFor]
@[simp] theorem raiseFor_tpi (m : Master) (n : Notice) (s : State) : (raiseFor m n s).tpi = s.tpi := by cases m <;> simp [raiseFor]
@[simp] theorem raiseFor_blr (m : Master) (n : Notice) (s : State) : (raiseFor m n s).blr = s.blr := by cases m <;> simp [raiseFor]
@[simp] theorem raiseFor_axl (m : Master) (n : Notice) (s : State) : (raiseFor m n s).axl = s.axl := by cases m <;> simp [raiseFor]
@[simp] theorem raiseFor_sst (m : Master) (n : Notice) (s : State) : (raiseFor m n s).sst = s.sst := by cases m <;> simp [raiseFor]
@[simp] theorem raiseFor_clock (m : Master) (n : Notice) (s : State) : (raiseFor m n s).clock = s.clock := by cases m <;> simp [raiseFor]
@[simp] theorem raiseFor_held (m : Master) (n : Notice) (s : State) : (raiseFor m n s).held = s.held := by cases m <;> simp [raiseFor]
@[simp] theorem raiseFor_pins (m : Master) (n : Notice) (s : State) : (raiseFor m n s).pins = s.pins := by cases m <;> simp [raiseFor]
@[simp] theorem raiseFor_free (m : Master) (n : Notice) (s : State) : (raiseFor m n s).free = s.free := by cases m <;> simp [raiseFor]
@[simp] theorem raiseFor_pending (m : Master) (n : Notice) (s : State) : (raiseFor m n s).pending = s.pending := by cases m <;> simp [raiseFor]

@[simp] theorem raiseBoth_kfs (n : Notice) (s : State) : (raiseBoth n s).kfs = s.kfs := by simp only [raiseBoth]; simp
@[simp] theorem raiseBoth_kq (n : Notice) (s : State) : (raiseBoth n s).kq = s.kq := by simp only [raiseBoth]; simp
@[simp] theorem raiseBoth_crm (n : Notice) (s : State) : (raiseBoth n s).crm = s.crm := by simp only [raiseBoth]; simp
@[simp] theorem raiseBoth_mlu (n : Notice) (s : State) : (raiseBoth n s).mlu = s.mlu := by simp only [raiseBoth]; simp
@[simp] theorem raiseBoth_kr (n : Notice) (s : State) : (raiseBoth n s).kr = s.kr := by simp only [raiseBoth]; simp
@[simp] theorem raiseBoth_tq (n : Notice) (s : State) : (raiseBoth n s).tq = s.tq := by simp only [raiseBoth]; simp
@[simp] theorem raiseBoth_gq (n : Notice) (s : State) : (raiseBoth n s).gq = s.gq := by simp only [raiseBoth]; simp
@[simp] theorem raiseBoth_dss (n : Notice) (s : State) : (raiseBoth n s).dss = s.dss := by simp only [raiseBoth]; simp
@[simp] theorem raiseBoth_tpi (n : Notice) (s : State) : (raiseBoth n s).tpi = s.tpi := by simp only [raiseBoth]; simp
@[simp] theorem raiseBoth_blr (n : Notice) (s : State) : (raiseBoth n s).blr = s.blr := by simp only [raiseBoth]; simp
@[simp] theorem raiseBoth_axl (n : Notice) (s : State) : (raiseBoth n s).axl = s.axl := by simp only [raiseBoth]; simp
@[simp] theorem raiseBoth_sst (n : Notice) (s : State) : (raiseBoth n s).sst = s.sst := by simp only [raiseBoth]; simp
@[simp] theorem raiseBoth_clock (n : Notice) (s : State) : (raiseBoth n s).clock = s.clock := by simp only [raiseBoth]; simp
@[simp] theorem raiseBoth_held (n : Notice) (s : State) : (raiseBoth n s).held = s.held := by simp only [raiseBoth]; simp
@[simp] theorem raiseBoth_pins (n : Notice) (s : State) : (raiseBoth n s).pins = s.pins := by simp only [raiseBoth]; simp
@[simp] theorem raiseBoth_free (n : Notice) (s : State) : (raiseBoth n s).free = s.free := by simp only [raiseBoth]; simp
@[simp] theorem raiseBoth_pending (n : Notice) (s : State) : (raiseBoth n s).pending = s.pending := by simp only [raiseBoth]; simp

@[simp] theorem raiseBothIf_kfs (b : Bool) (n : Notice) (s : State) : (raiseBothIf b n s).kfs = s.kfs := by simp only [raiseBothIf]; (repeat' split) <;> simp
@[simp] theorem raiseBothIf_kq (b : Bool) (n : Notice) (s : State) : (raiseBothIf b n s).kq = s.kq := by simp only [raiseBothIf]; (repeat' split) <;> simp
@[simp] theorem raiseBothIf_crm (b : Bool) (n : Notice) (s : State) : (raiseBothIf b n s).crm = s.crm := by simp only [raiseBothIf]; (repeat' split) <;> simp
@[simp] theorem raiseBothIf_mlu (b : Bool) (n : Notice) (s : State) : (raiseBothIf b n s).mlu = s.mlu := by simp only [raiseBothIf]; (repeat' split) <;> simp
@[simp] theorem raiseBothIf_kr (b : Bool) (n : Notice) (s : State) : (raiseBothIf b n s).kr = s.kr := by simp only [raiseBothIf]; (repeat' split) <;> simp
@[simp] theorem raiseBothIf_tq (b : Bool) (n : Notice) (s : State) : (raiseBothIf b n s).tq = s.tq := by simp only [raiseBothIf]; (repeat' split) <;> simp
@[simp] theorem raiseBothIf_gq (b : Bool) (n : Notice) (s : State) : (raiseBothIf b n s).gq = s.gq := by simp only [raiseBothIf]; (repeat' split) <;> simp
@[simp] theorem raiseBothIf_dss (b : Bool) (n : Notice) (s : State) : (raiseBothIf b n s).dss = s.dss := by simp only [raiseBothIf]; (repeat' split) <;> simp
@[simp] theorem raiseBothIf_tpi (b : Bool) (n : Notice) (s : State) : (raiseBothIf b n s).tpi = s.tpi := by simp only [raiseBothIf]; (repeat' split) <;> simp
@[simp] theorem raiseBothIf_blr (b : Bool) (n : Notice) (s : State) : (raiseBothIf b n s).blr = s.blr := by simp only [raiseBothIf]; (repeat' split) <;> simp
@[simp] theorem raiseBothIf_axl (b : Bool) (n : Notice) (s : State) : (raiseBothIf b n s).axl = s.axl := by simp only [raiseBothIf]; (repeat' split) <;> simp
@[simp] theorem raiseBothIf_sst (b : Bool) (n : Notice) (s : State) : (raiseBothIf b n s).sst = s.sst := by simp only [raiseBothIf]; (repeat' split) <;> simp
@[simp] theorem raiseBothIf_clock (b : Bool) (n : Notice) (s : State) : (raiseBothIf b n s).clock = s.clock := by simp only [raiseBothIf]; (repeat' split) <;> simp
@[simp] theorem raiseBothIf_held (b : Bool) (n : Notice) (s : State) : (raiseBothIf b n s).held = s.held := by simp only [raiseBothIf]; (repeat' split) <;> simp
@[simp] theorem raiseBothIf_pins (b : Bool) (n : Notice) (s : State) : (raiseBothIf b n s).pins = s.pins := by simp only [raiseBothIf]; (repeat' split) <;> simp
@[simp] theorem raiseBothIf_free (b : Bool) (n : Notice) (s : State) : (raiseBothIf b n s).free = s.free := by simp only [raiseBothIf]; (repeat' split) <;> simp
@[simp] theorem raiseBothIf_pending (b : Bool) (n : Notice) (s : State) : (raiseBothIf b n s).pending = s.pending := by simp only [raiseBothIf]; (repeat' split) <;> simp

@[simp] theorem setSiteRecord_kq (i : Nat) (r : SiteRecord) (s : State) : (setSiteRecord i r s).kq = s.kq := by simp only [setSiteRecord]; simp
@[simp] theorem setSiteRecord_crm (i : Nat) (r : SiteRecord) (s : State) : (setSiteRecord i r s).crm = s.crm := by simp only [setSiteRecord]; simp
@[simp] theorem setSiteRecord_mlu (i : Nat) (r : SiteRecord) (s : State) : (setSiteRecord i r s).mlu = s.mlu := by simp only [setSiteRecord]; simp
@[simp] theorem setSiteRecord_kr (i : Nat) (r : SiteRecord) (s : State) : (setSiteRecord i r s).kr = s.kr := by simp only [setSiteRecord]; simp
@[simp] theorem setSiteRecord_tq (i : Nat) (r : SiteRecord) (s : State) : (setSiteRecord i r s).tq = s.tq := by simp only [setSiteRecord]; simp
@[simp] theorem setSiteRecord_gq (i : Nat) (r : SiteRecord) (s : State) : (setSiteRecord i r s).gq = s.gq := by simp only [setSiteRecord]; simp
@[simp] theorem setSiteRecord_dss (i : Nat) (r : SiteRecord) (s : State) : (setSiteRecord i r s).dss = s.dss := by simp only [setSiteRecord]; simp
@[simp] theorem setSiteRecord_tpi (i : Nat) (r : SiteRecord) (s : State) : (setSiteRecord i r s).tpi = s.tpi := by simp only [setSiteRecord]; simp
@[simp] theorem setSiteRecord_blr (i : Nat) (r : SiteRecord) (s : State) : (setSiteRecord i r s).blr = s.blr := by simp only [setSiteRecord]; simp
@[simp] theorem setSiteRecord_dlp (i : Nat) (r : SiteRecord) (s : State) : (setSiteRecord i r s).dlp = s.dlp := by simp only [setSiteRecord]; simp
@[simp] theorem setSiteRecord_vp (i : Nat) (r : SiteRecord) (s : State) : (setSiteRecord i r s).vp = s.vp := by simp only [setSiteRecord]; simp
@[simp] theorem setSiteRecord_axl (i : Nat) (r : SiteRecord) (s : State) : (setSiteRecord i r s).axl = s.axl := by simp only [setSiteRecord]; simp
@[simp] theorem setSiteRecord_sst (i : Nat) (r : SiteRecord) (s : State) : (setSiteRecord i r s).sst = s.sst := by simp only [setSiteRecord]; simp
@[simp] theorem setSiteRecord_clock (i : Nat) (r : SiteRecord) (s : State) : (setSiteRecord i r s).clock = s.clock := by simp only [setSiteRecord]; simp
@[simp] theorem setSiteRecord_held (i : Nat) (r : SiteRecord) (s : State) : (setSiteRecord i r s).held = s.held := by simp only [setSiteRecord]; simp
@[simp] theorem setSiteRecord_pins (i : Nat) (r : SiteRecord) (s : State) : (setSiteRecord i r s).pins = s.pins := by simp only [setSiteRecord]; simp
@[simp] theorem setSiteRecord_free (i : Nat) (r : SiteRecord) (s : State) : (setSiteRecord i r s).free = s.free := by simp only [setSiteRecord]; simp
@[simp] theorem setSiteRecord_pending (i : Nat) (r : SiteRecord) (s : State) : (setSiteRecord i r s).pending = s.pending := by simp only [setSiteRecord]; simp

@[simp] theorem setSiteQual_kfs (i : Nat) (q : SiteQual) (s : State) : (setSiteQual i q s).kfs = s.kfs := by simp only [setSiteQual]; simp
@[simp] theorem setSiteQual_crm (i : Nat) (q : SiteQual) (s : State) : (setSiteQual i q s).crm = s.crm := by simp only [setSiteQual]; simp
@[simp] theorem setSiteQual_mlu (i : Nat) (q : SiteQual) (s : State) : (setSiteQual i q s).mlu = s.mlu := by simp only [setSiteQual]; simp
@[simp] theorem setSiteQual_kr (i : Nat) (q : SiteQual) (s : State) : (setSiteQual i q s).kr = s.kr := by simp only [setSiteQual]; simp
@[simp] theorem setSiteQual_tq (i : Nat) (q : SiteQual) (s : State) : (setSiteQual i q s).tq = s.tq := by simp only [setSiteQual]; simp
@[simp] theorem setSiteQual_gq (i : Nat) (q : SiteQual) (s : State) : (setSiteQual i q s).gq = s.gq := by simp only [setSiteQual]; simp
@[simp] theorem setSiteQual_dss (i : Nat) (q : SiteQual) (s : State) : (setSiteQual i q s).dss = s.dss := by simp only [setSiteQual]; simp
@[simp] theorem setSiteQual_tpi (i : Nat) (q : SiteQual) (s : State) : (setSiteQual i q s).tpi = s.tpi := by simp only [setSiteQual]; simp
@[simp] theorem setSiteQual_blr (i : Nat) (q : SiteQual) (s : State) : (setSiteQual i q s).blr = s.blr := by simp only [setSiteQual]; simp
@[simp] theorem setSiteQual_dlp (i : Nat) (q : SiteQual) (s : State) : (setSiteQual i q s).dlp = s.dlp := by simp only [setSiteQual]; simp
@[simp] theorem setSiteQual_vp (i : Nat) (q : SiteQual) (s : State) : (setSiteQual i q s).vp = s.vp := by simp only [setSiteQual]; simp
@[simp] theorem setSiteQual_axl (i : Nat) (q : SiteQual) (s : State) : (setSiteQual i q s).axl = s.axl := by simp only [setSiteQual]; simp
@[simp] theorem setSiteQual_sst (i : Nat) (q : SiteQual) (s : State) : (setSiteQual i q s).sst = s.sst := by simp only [setSiteQual]; simp
@[simp] theorem setSiteQual_clock (i : Nat) (q : SiteQual) (s : State) : (setSiteQual i q s).clock = s.clock := by simp only [setSiteQual]; simp
@[simp] theorem setSiteQual_held (i : Nat) (q : SiteQual) (s : State) : (setSiteQual i q s).held = s.held := by simp only [setSiteQual]; simp
@[simp] theorem setSiteQual_pins (i : Nat) (q : SiteQual) (s : State) : (setSiteQual i q s).pins = s.pins := by simp only [setSiteQual]; simp
@[simp] theorem setSiteQual_free (i : Nat) (q : SiteQual) (s : State) : (setSiteQual i q s).free = s.free := by simp only [setSiteQual]; simp
@[simp] theorem setSiteQual_pending (i : Nat) (q : SiteQual) (s : State) : (setSiteQual i q s).pending = s.pending := by simp only [setSiteQual]; simp

@[simp] theorem setQueue_kfs (m : Master) (q : Queue) (s : State) : (setQueue m q s).kfs = s.kfs := by cases m <;> simp [setQueue]
@[simp] theorem setQueue_kq (m : Master) (q : Queue) (s : State) : (setQueue m q s).kq = s.kq := by cases m <;> simp [setQueue]
@[simp] theorem setQueue_crm (m : Master) (q : Queue) (s : State) : (setQueue m q s).crm = s.crm := by cases m <;> simp [setQueue]
@[simp] theorem setQueue_mlu (m : Master) (q : Queue) (s : State) : (setQueue m q s).mlu = s.mlu := by cases m <;> simp [setQueue]
@[simp] theorem setQueue_kr (m : Master) (q : Queue) (s : State) : (setQueue m q s).kr = s.kr := by cases m <;> simp [setQueue]
@[simp] theorem setQueue_dss (m : Master) (q : Queue) (s : State) : (setQueue m q s).dss = s.dss := by cases m <;> simp [setQueue]
@[simp] theorem setQueue_tpi (m : Master) (q : Queue) (s : State) : (setQueue m q s).tpi = s.tpi := by cases m <;> simp [setQueue]
@[simp] theorem setQueue_blr (m : Master) (q : Queue) (s : State) : (setQueue m q s).blr = s.blr := by cases m <;> simp [setQueue]
@[simp] theorem setQueue_dlp (m : Master) (q : Queue) (s : State) : (setQueue m q s).dlp = s.dlp := by cases m <;> simp [setQueue]
@[simp] theorem setQueue_vp (m : Master) (q : Queue) (s : State) : (setQueue m q s).vp = s.vp := by cases m <;> simp [setQueue]
@[simp] theorem setQueue_axl (m : Master) (q : Queue) (s : State) : (setQueue m q s).axl = s.axl := by cases m <;> simp [setQueue]
@[simp] theorem setQueue_sst (m : Master) (q : Queue) (s : State) : (setQueue m q s).sst = s.sst := by cases m <;> simp [setQueue]
@[simp] theorem setQueue_clock (m : Master) (q : Queue) (s : State) : (setQueue m q s).clock = s.clock := by cases m <;> simp [setQueue]
@[simp] theorem setQueue_held (m : Master) (q : Queue) (s : State) : (setQueue m q s).held = s.held := by cases m <;> simp [setQueue]
@[simp] theorem setQueue_pins (m : Master) (q : Queue) (s : State) : (setQueue m q s).pins = s.pins := by cases m <;> simp [setQueue]
@[simp] theorem setQueue_free (m : Master) (q : Queue) (s : State) : (setQueue m q s).free = s.free := by cases m <;> simp [setQueue]
@[simp] theorem setQueue_pending (m : Master) (q : Queue) (s : State) : (setQueue m q s).pending = s.pending := by cases m <;> simp [setQueue]

@[simp] theorem offerRepeatIf_kfs (b : Bool) (m : Master) (r : Report) (s : State) : (offerRepeatIf b m r s).kfs = s.kfs := by simp only [offerRepeatIf]; (repeat' split) <;> simp
@[simp] theorem offerRepeatIf_kq (b : Bool) (m : Master) (r : Report) (s : State) : (offerRepeatIf b m r s).kq = s.kq := by simp only [offerRepeatIf]; (repeat' split) <;> simp
@[simp] theorem offerRepeatIf_crm (b : Bool) (m : Master) (r : Report) (s : State) : (offerRepeatIf b m r s).crm = s.crm := by simp only [offerRepeatIf]; (repeat' split) <;> simp
@[simp] theorem offerRepeatIf_mlu (b : Bool) (m : Master) (r : Report) (s : State) : (offerRepeatIf b m r s).mlu = s.mlu := by simp only [offerRepeatIf]; (repeat' split) <;> simp
@[simp] theorem offerRepeatIf_dss (b : Bool) (m : Master) (r : Report) (s : State) : (offerRepeatIf b m r s).dss = s.dss := by simp only [offerRepeatIf]; (repeat' split) <;> simp
@[simp] theorem offerRepeatIf_tpi (b : Bool) (m : Master) (r : Report) (s : State) : (offerRepeatIf b m r s).tpi = s.tpi := by simp only [offerRepeatIf]; (repeat' split) <;> simp
@[simp] theorem offerRepeatIf_blr (b : Bool) (m : Master) (r : Report) (s : State) : (offerRepeatIf b m r s).blr = s.blr := by simp only [offerRepeatIf]; (repeat' split) <;> simp
@[simp] theorem offerRepeatIf_dlp (b : Bool) (m : Master) (r : Report) (s : State) : (offerRepeatIf b m r s).dlp = s.dlp := by simp only [offerRepeatIf]; (repeat' split) <;> simp
@[simp] theorem offerRepeatIf_vp (b : Bool) (m : Master) (r : Report) (s : State) : (offerRepeatIf b m r s).vp = s.vp := by simp only [offerRepeatIf]; (repeat' split) <;> simp
@[simp] theorem offerRepeatIf_axl (b : Bool) (m : Master) (r : Report) (s : State) : (offerRepeatIf b m r s).axl = s.axl := by simp only [offerRepeatIf]; (repeat' split) <;> simp
@[simp] theorem offerRepeatIf_sst (b : Bool) (m : Master) (r : Report) (s : State) : (offerRepeatIf b m r s).sst = s.sst := by simp only [offerRepeatIf]; (repeat' split) <;> simp
@[simp] theorem offerRepeatIf_clock (b : Bool) (m : Master) (r : Report) (s : State) : (offerRepeatIf b m r s).clock = s.clock := by simp only [offerRepeatIf]; (repeat' split) <;> simp
@[simp] theorem offerRepeatIf_held (b : Bool) (m : Master) (r : Report) (s : State) : (offerRepeatIf b m r s).held = s.held := by simp only [offerRepeatIf]; (repeat' split) <;> simp
@[simp] theorem offerRepeatIf_pins (b : Bool) (m : Master) (r : Report) (s : State) : (offerRepeatIf b m r s).pins = s.pins := by simp only [offerRepeatIf]; (repeat' split) <;> simp
@[simp] theorem offerRepeatIf_free (b : Bool) (m : Master) (r : Report) (s : State) : (offerRepeatIf b m r s).free = s.free := by simp only [offerRepeatIf]; (repeat' split) <;> simp
@[simp] theorem offerRepeatIf_pending (b : Bool) (m : Master) (r : Report) (s : State) : (offerRepeatIf b m r s).pending = s.pending := by simp only [offerRepeatIf]; (repeat' split) <;> simp

@[simp] theorem offerMoveIf_kfs (b : Bool) (m : Master) (r : Report) (s : State) : (offerMoveIf b m r s).kfs = s.kfs := by simp only [offerMoveIf]; (repeat' split) <;> simp
@[simp] theorem offerMoveIf_kq (b : Bool) (m : Master) (r : Report) (s : State) : (offerMoveIf b m r s).kq = s.kq := by simp only [offerMoveIf]; (repeat' split) <;> simp
@[simp] theorem offerMoveIf_crm (b : Bool) (m : Master) (r : Report) (s : State) : (offerMoveIf b m r s).crm = s.crm := by simp only [offerMoveIf]; (repeat' split) <;> simp
@[simp] theorem offerMoveIf_mlu (b : Bool) (m : Master) (r : Report) (s : State) : (offerMoveIf b m r s).mlu = s.mlu := by simp only [offerMoveIf]; (repeat' split) <;> simp
@[simp] theorem offerMoveIf_kr (b : Bool) (m : Master) (r : Report) (s : State) : (offerMoveIf b m r s).kr = s.kr := by simp only [offerMoveIf]; (repeat' split) <;> simp
@[simp] theorem offerMoveIf_dss (b : Bool) (m : Master) (r : Report) (s : State) : (offerMoveIf b m r s).dss = s.dss := by simp only [offerMoveIf]; (repeat' split) <;> simp
@[simp] theorem offerMoveIf_tpi (b : Bool) (m : Master) (r : Report) (s : State) : (offerMoveIf b m r s).tpi = s.tpi := by simp only [offerMoveIf]; (repeat' split) <;> simp
@[simp] theorem offerMoveIf_blr (b : Bool) (m : Master) (r : Report) (s : State) : (offerMoveIf b m r s).blr = s.blr := by simp only [offerMoveIf]; (repeat' split) <;> simp
@[simp] theorem offerMoveIf_dlp (b : Bool) (m : Master) (r : Report) (s : State) : (offerMoveIf b m r s).dlp = s.dlp := by simp only [offerMoveIf]; (repeat' split) <;> simp
@[simp] theorem offerMoveIf_vp (b : Bool) (m : Master) (r : Report) (s : State) : (offerMoveIf b m r s).vp = s.vp := by simp only [offerMoveIf]; (repeat' split) <;> simp
@[simp] theorem offerMoveIf_axl (b : Bool) (m : Master) (r : Report) (s : State) : (offerMoveIf b m r s).axl = s.axl := by simp only [offerMoveIf]; (repeat' split) <;> simp
@[simp] theorem offerMoveIf_sst (b : Bool) (m : Master) (r : Report) (s : State) : (offerMoveIf b m r s).sst = s.sst := by simp only [offerMoveIf]; (repeat' split) <;> simp
@[simp] theorem offerMoveIf_clock (b : Bool) (m : Master) (r : Report) (s : State) : (offerMoveIf b m r s).clock = s.clock := by simp only [offerMoveIf]; (repeat' split) <;> simp
@[simp] theorem offerMoveIf_held (b : Bool) (m : Master) (r : Report) (s : State) : (offerMoveIf b m r s).held = s.held := by simp only [offerMoveIf]; (repeat' split) <;> simp
@[simp] theorem offerMoveIf_pins (b : Bool) (m : Master) (r : Report) (s : State) : (offerMoveIf b m r s).pins = s.pins := by simp only [offerMoveIf]; (repeat' split) <;> simp
@[simp] theorem offerMoveIf_free (b : Bool) (m : Master) (r : Report) (s : State) : (offerMoveIf b m r s).free = s.free := by simp only [offerMoveIf]; (repeat' split) <;> simp
@[simp] theorem offerMoveIf_pending (b : Bool) (m : Master) (r : Report) (s : State) : (offerMoveIf b m r s).pending = s.pending := by simp only [offerMoveIf]; (repeat' split) <;> simp

@[simp] theorem offerReleaseIf_kfs (b : Bool) (m : Master) (r : Report) (s : State) : (offerReleaseIf b m r s).kfs = s.kfs := by simp only [offerReleaseIf]; (repeat' split) <;> simp
@[simp] theorem offerReleaseIf_kq (b : Bool) (m : Master) (r : Report) (s : State) : (offerReleaseIf b m r s).kq = s.kq := by simp only [offerReleaseIf]; (repeat' split) <;> simp
@[simp] theorem offerReleaseIf_crm (b : Bool) (m : Master) (r : Report) (s : State) : (offerReleaseIf b m r s).crm = s.crm := by simp only [offerReleaseIf]; (repeat' split) <;> simp
@[simp] theorem offerReleaseIf_mlu (b : Bool) (m : Master) (r : Report) (s : State) : (offerReleaseIf b m r s).mlu = s.mlu := by simp only [offerReleaseIf]; (repeat' split) <;> simp
@[simp] theorem offerReleaseIf_kr (b : Bool) (m : Master) (r : Report) (s : State) : (offerReleaseIf b m r s).kr = s.kr := by simp only [offerReleaseIf]; (repeat' split) <;> simp
@[simp] theorem offerReleaseIf_dss (b : Bool) (m : Master) (r : Report) (s : State) : (offerReleaseIf b m r s).dss = s.dss := by simp only [offerReleaseIf]; (repeat' split) <;> simp
@[simp] theorem offerReleaseIf_tpi (b : Bool) (m : Master) (r : Report) (s : State) : (offerReleaseIf b m r s).tpi = s.tpi := by simp only [offerReleaseIf]; (repeat' split) <;> simp
@[simp] theorem offerReleaseIf_blr (b : Bool) (m : Master) (r : Report) (s : State) : (offerReleaseIf b m r s).blr = s.blr := by simp only [offerReleaseIf]; (repeat' split) <;> simp
@[simp] theorem offerReleaseIf_dlp (b : Bool) (m : Master) (r : Report) (s : State) : (offerReleaseIf b m r s).dlp = s.dlp := by simp only [offerReleaseIf]; (repeat' split) <;> simp
@[simp] theorem offerReleaseIf_vp (b : Bool) (m : Master) (r : Report) (s : State) : (offerReleaseIf b m r s).vp = s.vp := by simp only [offerReleaseIf]; (repeat' split) <;> simp
@[simp] theorem offerReleaseIf_axl (b : Bool) (m : Master) (r : Report) (s : State) : (offerReleaseIf b m r s).axl = s.axl := by simp only [offerReleaseIf]; (repeat' split) <;> simp
@[simp] theorem offerReleaseIf_sst (b : Bool) (m : Master) (r : Report) (s : State) : (offerReleaseIf b m r s).sst = s.sst := by simp only [offerReleaseIf]; (repeat' split) <;> simp
@[simp] theorem offerReleaseIf_clock (b : Bool) (m : Master) (r : Report) (s : State) : (offerReleaseIf b m r s).clock = s.clock := by simp only [offerReleaseIf]; (repeat' split) <;> simp
@[simp] theorem offerReleaseIf_held (b : Bool) (m : Master) (r : Report) (s : State) : (offerReleaseIf b m r s).held = s.held := by simp only [offerReleaseIf]; (repeat' split) <;> simp
@[simp] theorem offerReleaseIf_pins (b : Bool) (m : Master) (r : Report) (s : State) : (offerReleaseIf b m r s).pins = s.pins := by simp only [offerReleaseIf]; (repeat' split) <;> simp
@[simp] theorem offerReleaseIf_free (b : Bool) (m : Master) (r : Report) (s : State) : (offerReleaseIf b m r s).free = s.free := by simp only [offerReleaseIf]; (repeat' split) <;> simp
@[simp] theorem offerReleaseIf_pending (b : Bool) (m : Master) (r : Report) (s : State) : (offerReleaseIf b m r s).pending = s.pending := by simp only [offerReleaseIf]; (repeat' split) <;> simp

@[simp] theorem offerPressTo_kfs (m : Master) (r : Report) (s : State) : (offerPressTo m r s).1.kfs = s.kfs := by simp only [offerPressTo]; split <;> simp
@[simp] theorem offerPressIf_kfs (b : Bool) (m : Master) (r : Report) (s : State) : (offerPressIf b m r s).1.kfs = s.kfs := by simp only [offerPressIf]; split <;> simp
@[simp] theorem offerPressTo_kq (m : Master) (r : Report) (s : State) : (offerPressTo m r s).1.kq = s.kq := by simp only [offerPressTo]; split <;> simp
@[simp] theorem offerPressIf_kq (b : Bool) (m : Master) (r : Report) (s : State) : (offerPressIf b m r s).1.kq = s.kq := by simp only [offerPressIf]; split <;> simp
@[simp] theorem offerPressTo_crm (m : Master) (r : Report) (s : State) : (offerPressTo m r s).1.crm = s.crm := by simp only [offerPressTo]; split <;> simp
@[simp] theorem offerPressIf_crm (b : Bool) (m : Master) (r : Report) (s : State) : (offerPressIf b m r s).1.crm = s.crm := by simp only [offerPressIf]; split <;> simp
@[simp] theorem offerPressTo_mlu (m : Master) (r : Report) (s : State) : (offerPressTo m r s).1.mlu = s.mlu := by simp only [offerPressTo]; split <;> simp
@[simp] theorem offerPressIf_mlu (b : Bool) (m : Master) (r : Report) (s : State) : (offerPressIf b m r s).1.mlu = s.mlu := by simp only [offerPressIf]; split <;> simp
@[simp] theorem offerPressTo_kr (m : Master) (r : Report) (s : State) : (offerPressTo m r s).1.kr = s.kr := by simp only [offerPressTo]; split <;> simp
@[simp] theorem offerPressIf_kr (b : Bool) (m : Master) (r : Report) (s : State) : (offerPressIf b m r s).1.kr = s.kr := by simp only [offerPressIf]; split <;> simp
@[simp] theorem offerPressTo_dss (m : Master) (r : Report) (s : State) : (offerPressTo m r s).1.dss = s.dss := by simp only [offerPressTo]; split <;> simp
@[simp] theorem offerPressIf_dss (b : Bool) (m : Master) (r : Report) (s : State) : (offerPressIf b m r s).1.dss = s.dss := by simp only [offerPressIf]; split <;> simp
@[simp] theorem offerPressTo_tpi (m : Master) (r : Report) (s : State) : (offerPressTo m r s).1.tpi = s.tpi := by simp only [offerPressTo]; split <;> simp
@[simp] theorem offerPressIf_tpi (b : Bool) (m : Master) (r : Report) (s : State) : (offerPressIf b m r s).1.tpi = s.tpi := by simp only [offerPressIf]; split <;> simp
@[simp] theorem offerPressTo_blr (m : Master) (r : Report) (s : State) : (offerPressTo m r s).1.blr = s.blr := by simp only [offerPressTo]; split <;> simp
@[simp] theorem offerPressIf_blr (b : Bool) (m : Master) (r : Report) (s : State) : (offerPressIf b m r s).1.blr = s.blr := by simp only [offerPressIf]; split <;> simp
@[simp] theorem offerPressTo_axl (m : Master) (r : Report) (s : State) : (offerPressTo m r s).1.axl = s.axl := by simp only [offerPressTo]; split <;> simp
@[simp] theorem offerPressIf_axl (b : Bool) (m : Master) (r : Report) (s : State) : (offerPressIf b m r s).1.axl = s.axl := by simp only [offerPressIf]; split <;> simp
@[simp] theorem offerPressTo_sst (m : Master) (r : Report) (s : State) : (offerPressTo m r s).1.sst = s.sst := by simp only [offerPressTo]; split <;> simp
@[simp] theorem offerPressIf_sst (b : Bool) (m : Master) (r : Report) (s : State) : (offerPressIf b m r s).1.sst = s.sst := by simp only [offerPressIf]; split <;> simp
@[simp] theorem offerPressTo_clock (m : Master) (r : Report) (s : State) : (offerPressTo m r s).1.clock = s.clock := by simp only [offerPressTo]; split <;> simp
@[simp] theorem offerPressIf_clock (b : Bool) (m : Master) (r : Report) (s : State) : (offerPressIf b m r s).1.clock = s.clock := by simp only [offerPressIf]; split <;> simp
@[simp] theorem offerPressTo_held (m : Master) (r : Report) (s : State) : (offerPressTo m r s).1.held = s.held := by simp only [offerPressTo]; split <;> simp
@[simp] theorem offerPressIf_held (b : Bool) (m : Master) (r : Report) (s : State) : (offerPressIf b m r s).1.held = s.held := by simp only [offerPressIf]; split <;> simp
@[simp] theorem offerPressTo_pins (m : Master) (r : Report) (s : State) : (offerPressTo m r s).1.pins = s.pins := by simp only [offerPressTo]; split <;> simp
@[simp] theorem offerPressIf_pins (b : Bool) (m : Master) (r : Report) (s : State) : (offerPressIf b m r s).1.pins = s.pins := by simp only [offerPressIf]; split <;> simp
@[simp] theorem offerPressTo_free (m : Master) (r : Report) (s : State) : (offerPressTo m r s).1.free = s.free := by simp only [offerPressTo]; split <;> simp
@[simp] theorem offerPressIf_free (b : Bool) (m : Master) (r : Report) (s : State) : (offerPressIf b m r s).1.free = s.free := by simp only [offerPressIf]; split <;> simp
@[simp] theorem offerPressTo_pending (m : Master) (r : Report) (s : State) : (offerPressTo m r s).1.pending = s.pending := by simp only [offerPressTo]; split <;> simp
@[simp] theorem offerPressIf_pending (b : Bool) (m : Master) (r : Report) (s : State) : (offerPressIf b m r s).1.pending = s.pending := by simp only [offerPressIf]; split <;> simp

@[simp] theorem chooseCandidate_kfs (s : State) : (chooseCandidate s).kfs = s.kfs := by simp only [chooseCandidate]; (repeat' split) <;> simp
@[simp] theorem chooseCandidate_kq (s : State) : (chooseCandidate s).kq = s.kq := by simp only [chooseCandidate]; (repeat' split) <;> simp
@[simp] theorem chooseCandidate_crm (s : State) : (chooseCandidate s).crm = s.crm := by simp only [chooseCandidate]; (repeat' split) <;> simp
@[simp] theorem chooseCandidate_mlu (s : State) : (chooseCandidate s).mlu = s.mlu := by simp only [chooseCandidate]; (repeat' split) <;> simp
@[simp] theorem chooseCandidate_tq (s : State) : (chooseCandidate s).tq = s.tq := by simp only [chooseCandidate]; (repeat' split) <;> simp
@[simp] theorem chooseCandidate_gq (s : State) : (chooseCandidate s).gq = s.gq := by simp only [chooseCandidate]; (repeat' split) <;> simp
@[simp] theorem chooseCandidate_dss (s : State) : (chooseCandidate s).dss = s.dss := by simp only [chooseCandidate]; (repeat' split) <;> simp
@[simp] theorem chooseCandidate_tpi (s : State) : (chooseCandidate s).tpi = s.tpi := by simp only [chooseCandidate]; (repeat' split) <;> simp
@[simp] theorem chooseCandidate_blr (s : State) : (chooseCandidate s).blr = s.blr := by simp only [chooseCandidate]; (repeat' split) <;> simp
@[simp] theorem chooseCandidate_dlp (s : State) : (chooseCandidate s).dlp = s.dlp := by simp only [chooseCandidate]; (repeat' split) <;> simp
@[simp] theorem chooseCandidate_vp (s : State) : (chooseCandidate s).vp = s.vp := by simp only [chooseCandidate]; (repeat' split) <;> simp
@[simp] theorem chooseCandidate_axl (s : State) : (chooseCandidate s).axl = s.axl := by simp only [chooseCandidate]; (repeat' split) <;> simp
@[simp] theorem chooseCandidate_sst (s : State) : (chooseCandidate s).sst = s.sst := by simp only [chooseCandidate]; (repeat' split) <;> simp
@[simp] theorem chooseCandidate_clock (s : State) : (chooseCandidate s).clock = s.clock := by simp only [chooseCandidate]; (repeat' split) <;> simp
@[simp] theorem chooseCandidate_held (s : State) : (chooseCandidate s).held = s.held := by simp only [chooseCandidate]; (repeat' split) <;> simp
@[simp] theorem chooseCandidate_pins (s : State) : (chooseCandidate s).pins = s.pins := by simp only [chooseCandidate]; (repeat' split) <;> simp
@[simp] theorem chooseCandidate_free (s : State) : (chooseCandidate s).free = s.free := by simp only [chooseCandidate]; (repeat' split) <;> simp
@[simp] theorem chooseCandidate_pending (s : State) : (chooseCandidate s).pending = s.pending := by simp only [chooseCandidate]; (repeat' split) <;> simp

@[simp] theorem setLockout_kfs (l : Lockout) (o : Option Timer) (s : State) : (setLockout l o s).kfs = s.kfs := by simp only [setLockout]; simp
@[simp] theorem setLockout_kq (l : Lockout) (o : Option Timer) (s : State) : (setLockout l o s).kq = s.kq := by simp only [setLockout]; simp
@[simp] theorem setLockout_crm (l : Lockout) (o : Option Timer) (s : State) : (setLockout l o s).crm = s.crm := by simp only [setLockout]; simp
@[simp] theorem setLockout_kr (l : Lockout) (o : Option Timer) (s : State) : (setLockout l o s).kr = s.kr := by simp only [setLockout]; simp
@[simp] theorem setLockout_tq (l : Lockout) (o : Option Timer) (s : State) : (setLockout l o s).tq = s.tq := by simp only [setLockout]; simp
@[simp] theorem setLockout_gq (l : Lockout) (o : Option Timer) (s : State) : (setLockout l o s).gq = s.gq := by simp only [setLockout]; simp
@[simp] theorem setLockout_dss (l : Lockout) (o : Option Timer) (s : State) : (setLockout l o s).dss = s.dss := by simp only [setLockout]; simp
@[simp] theorem setLockout_tpi (l : Lockout) (o : Option Timer) (s : State) : (setLockout l o s).tpi = s.tpi := by simp only [setLockout]; simp
@[simp] theorem setLockout_blr (l : Lockout) (o : Option Timer) (s : State) : (setLockout l o s).blr = s.blr := by simp only [setLockout]; simp
@[simp] theorem setLockout_axl (l : Lockout) (o : Option Timer) (s : State) : (setLockout l o s).axl = s.axl := by simp only [setLockout]; simp
@[simp] theorem setLockout_sst (l : Lockout) (o : Option Timer) (s : State) : (setLockout l o s).sst = s.sst := by simp only [setLockout]; simp
@[simp] theorem setLockout_clock (l : Lockout) (o : Option Timer) (s : State) : (setLockout l o s).clock = s.clock := by simp only [setLockout]; simp
@[simp] theorem setLockout_held (l : Lockout) (o : Option Timer) (s : State) : (setLockout l o s).held = s.held := by simp only [setLockout]; simp
@[simp] theorem setLockout_pins (l : Lockout) (o : Option Timer) (s : State) : (setLockout l o s).pins = s.pins := by simp only [setLockout]; simp
@[simp] theorem setLockout_free (l : Lockout) (o : Option Timer) (s : State) : (setLockout l o s).free = s.free := by simp only [setLockout]; simp
@[simp] theorem setLockout_pending (l : Lockout) (o : Option Timer) (s : State) : (setLockout l o s).pending = s.pending := by simp only [setLockout]; simp

@[simp] theorem countCovered_kfs (s : State) : (countCovered s).kfs = s.kfs := by simp only [countCovered]; (repeat' split) <;> simp
@[simp] theorem countCovered_kq (s : State) : (countCovered s).kq = s.kq := by simp only [countCovered]; (repeat' split) <;> simp
@[simp] theorem countCovered_crm (s : State) : (countCovered s).crm = s.crm := by simp only [countCovered]; (repeat' split) <;> simp
@[simp] theorem countCovered_kr (s : State) : (countCovered s).kr = s.kr := by simp only [countCovered]; (repeat' split) <;> simp
@[simp] theorem countCovered_tq (s : State) : (countCovered s).tq = s.tq := by simp only [countCovered]; (repeat' split) <;> simp
@[simp] theorem countCovered_gq (s : State) : (countCovered s).gq = s.gq := by simp only [countCovered]; (repeat' split) <;> simp
@[simp] theorem countCovered_dss (s : State) : (countCovered s).dss = s.dss := by simp only [countCovered]; (repeat' split) <;> simp
@[simp] theorem countCovered_tpi (s : State) : (countCovered s).tpi = s.tpi := by simp only [countCovered]; (repeat' split) <;> simp
@[simp] theorem countCovered_blr (s : State) : (countCovered s).blr = s.blr := by simp only [countCovered]; (repeat' split) <;> simp
@[simp] theorem countCovered_axl (s : State) : (countCovered s).axl = s.axl := by simp only [countCovered]; (repeat' split) <;> simp
@[simp] theorem countCovered_sst (s : State) : (countCovered s).sst = s.sst := by simp only [countCovered]; (repeat' split) <;> simp
@[simp] theorem countCovered_clock (s : State) : (countCovered s).clock = s.clock := by simp only [countCovered]; (repeat' split) <;> simp
@[simp] theorem countCovered_held (s : State) : (countCovered s).held = s.held := by simp only [countCovered]; (repeat' split) <;> simp
@[simp] theorem countCovered_pins (s : State) : (countCovered s).pins = s.pins := by simp only [countCovered]; (repeat' split) <;> simp
@[simp] theorem countCovered_free (s : State) : (countCovered s).free = s.free := by simp only [countCovered]; (repeat' split) <;> simp
@[simp] theorem countCovered_pending (s : State) : (countCovered s).pending = s.pending := by simp only [countCovered]; (repeat' split) <;> simp

@[simp] theorem takeRelease_kfs (src : Source) (o : Option Reason) (xy : Nat × Nat) (s : State) : (takeRelease src o xy s).kfs = s.kfs := by simp only [takeRelease]; (repeat' split) <;> simp
@[simp] theorem takeRelease_kq (src : Source) (o : Option Reason) (xy : Nat × Nat) (s : State) : (takeRelease src o xy s).kq = s.kq := by simp only [takeRelease]; (repeat' split) <;> simp
@[simp] theorem takeRelease_crm (src : Source) (o : Option Reason) (xy : Nat × Nat) (s : State) : (takeRelease src o xy s).crm = s.crm := by simp only [takeRelease]; (repeat' split) <;> simp
@[simp] theorem takeRelease_dss (src : Source) (o : Option Reason) (xy : Nat × Nat) (s : State) : (takeRelease src o xy s).dss = s.dss := by simp only [takeRelease]; (repeat' split) <;> simp
@[simp] theorem takeRelease_tpi (src : Source) (o : Option Reason) (xy : Nat × Nat) (s : State) : (takeRelease src o xy s).tpi = s.tpi := by simp only [takeRelease]; (repeat' split) <;> simp
@[simp] theorem takeRelease_blr (src : Source) (o : Option Reason) (xy : Nat × Nat) (s : State) : (takeRelease src o xy s).blr = s.blr := by simp only [takeRelease]; (repeat' split) <;> simp
@[simp] theorem takeRelease_axl (src : Source) (o : Option Reason) (xy : Nat × Nat) (s : State) : (takeRelease src o xy s).axl = s.axl := by simp only [takeRelease]; (repeat' split) <;> simp
@[simp] theorem takeRelease_sst (src : Source) (o : Option Reason) (xy : Nat × Nat) (s : State) : (takeRelease src o xy s).sst = s.sst := by simp only [takeRelease]; (repeat' split) <;> simp
@[simp] theorem takeRelease_clock (src : Source) (o : Option Reason) (xy : Nat × Nat) (s : State) : (takeRelease src o xy s).clock = s.clock := by simp only [takeRelease]; (repeat' split) <;> simp
@[simp] theorem takeRelease_held (src : Source) (o : Option Reason) (xy : Nat × Nat) (s : State) : (takeRelease src o xy s).held = s.held := by simp only [takeRelease]; (repeat' split) <;> simp
@[simp] theorem takeRelease_pins (src : Source) (o : Option Reason) (xy : Nat × Nat) (s : State) : (takeRelease src o xy s).pins = s.pins := by simp only [takeRelease]; (repeat' split) <;> simp
@[simp] theorem takeRelease_free (src : Source) (o : Option Reason) (xy : Nat × Nat) (s : State) : (takeRelease src o xy s).free = s.free := by simp only [takeRelease]; (repeat' split) <;> simp
@[simp] theorem takeRelease_pending (src : Source) (o : Option Reason) (xy : Nat × Nat) (s : State) : (takeRelease src o xy s).pending = s.pending := by simp only [takeRelease]; (repeat' split) <;> simp

@[simp] theorem rollover_kfs (o : Owners) (s : State) : (rollover o s).kfs = s.kfs := by simp only [rollover]; (repeat' split) <;> simp
@[simp] theorem rollover_kq (o : Owners) (s : State) : (rollover o s).kq = s.kq := by simp only [rollover]; (repeat' split) <;> simp
@[simp] theorem rollover_crm (o : Owners) (s : State) : (rollover o s).crm = s.crm := by simp only [rollover]; (repeat' split) <;> simp
@[simp] theorem rollover_mlu (o : Owners) (s : State) : (rollover o s).mlu = s.mlu := by simp only [rollover]; (repeat' split) <;> simp
@[simp] theorem rollover_tq (o : Owners) (s : State) : (rollover o s).tq = s.tq := by simp only [rollover]; (repeat' split) <;> simp
@[simp] theorem rollover_gq (o : Owners) (s : State) : (rollover o s).gq = s.gq := by simp only [rollover]; (repeat' split) <;> simp
@[simp] theorem rollover_dss (o : Owners) (s : State) : (rollover o s).dss = s.dss := by simp only [rollover]; (repeat' split) <;> simp
@[simp] theorem rollover_tpi (o : Owners) (s : State) : (rollover o s).tpi = s.tpi := by simp only [rollover]; (repeat' split) <;> simp
@[simp] theorem rollover_blr (o : Owners) (s : State) : (rollover o s).blr = s.blr := by simp only [rollover]; (repeat' split) <;> simp
@[simp] theorem rollover_axl (o : Owners) (s : State) : (rollover o s).axl = s.axl := by simp only [rollover]; (repeat' split) <;> simp
@[simp] theorem rollover_sst (o : Owners) (s : State) : (rollover o s).sst = s.sst := by simp only [rollover]; (repeat' split) <;> simp
@[simp] theorem rollover_clock (o : Owners) (s : State) : (rollover o s).clock = s.clock := by simp only [rollover]; (repeat' split) <;> simp
@[simp] theorem rollover_held (o : Owners) (s : State) : (rollover o s).held = s.held := by simp only [rollover]; (repeat' split) <;> simp
@[simp] theorem rollover_pins (o : Owners) (s : State) : (rollover o s).pins = s.pins := by simp only [rollover]; (repeat' split) <;> simp
@[simp] theorem rollover_free (o : Owners) (s : State) : (rollover o s).free = s.free := by simp only [rollover]; (repeat' split) <;> simp
@[simp] theorem rollover_pending (o : Owners) (s : State) : (rollover o s).pending = s.pending := by simp only [rollover]; (repeat' split) <;> simp

@[simp] theorem admitPress_kfs (p : Press) (s : State) : (admitPress p s).kfs = s.kfs := by simp only [admitPress]; simp
@[simp] theorem admitPress_kq (p : Press) (s : State) : (admitPress p s).kq = s.kq := by simp only [admitPress]; simp
@[simp] theorem admitPress_crm (p : Press) (s : State) : (admitPress p s).crm = s.crm := by simp only [admitPress]; simp
@[simp] theorem admitPress_mlu (p : Press) (s : State) : (admitPress p s).mlu = s.mlu := by simp only [admitPress]; simp
@[simp] theorem admitPress_dss (p : Press) (s : State) : (admitPress p s).dss = s.dss := by simp only [admitPress]; simp
@[simp] theorem admitPress_tpi (p : Press) (s : State) : (admitPress p s).tpi = s.tpi := by simp only [admitPress]; simp
@[simp] theorem admitPress_blr (p : Press) (s : State) : (admitPress p s).blr = s.blr := by simp only [admitPress]; simp
@[simp] theorem admitPress_axl (p : Press) (s : State) : (admitPress p s).axl = s.axl := by simp only [admitPress]; simp
@[simp] theorem admitPress_sst (p : Press) (s : State) : (admitPress p s).sst = s.sst := by simp only [admitPress]; simp
@[simp] theorem admitPress_clock (p : Press) (s : State) : (admitPress p s).clock = s.clock := by simp only [admitPress]; simp
@[simp] theorem admitPress_held (p : Press) (s : State) : (admitPress p s).held = s.held := by simp only [admitPress]; simp
@[simp] theorem admitPress_pins (p : Press) (s : State) : (admitPress p s).pins = s.pins := by simp only [admitPress]; simp
@[simp] theorem admitPress_free (p : Press) (s : State) : (admitPress p s).free = s.free := by simp only [admitPress]; simp
@[simp] theorem admitPress_pending (p : Press) (s : State) : (admitPress p s).pending = s.pending := by simp only [admitPress]; simp

@[simp] theorem takePress_kfs (p : Press) (s : State) : (takePress p s).kfs = s.kfs := by simp only [takePress]; (repeat' split) <;> simp
@[simp] theorem takePress_kq (p : Press) (s : State) : (takePress p s).kq = s.kq := by simp only [takePress]; (repeat' split) <;> simp
@[simp] theorem takePress_crm (p : Press) (s : State) : (takePress p s).crm = s.crm := by simp only [takePress]; (repeat' split) <;> simp
@[simp] theorem takePress_mlu (p : Press) (s : State) : (takePress p s).mlu = s.mlu := by simp only [takePress]; (repeat' split) <;> simp
@[simp] theorem takePress_dss (p : Press) (s : State) : (takePress p s).dss = s.dss := by simp only [takePress]; (repeat' split) <;> simp
@[simp] theorem takePress_tpi (p : Press) (s : State) : (takePress p s).tpi = s.tpi := by simp only [takePress]; (repeat' split) <;> simp
@[simp] theorem takePress_blr (p : Press) (s : State) : (takePress p s).blr = s.blr := by simp only [takePress]; (repeat' split) <;> simp
@[simp] theorem takePress_axl (p : Press) (s : State) : (takePress p s).axl = s.axl := by simp only [takePress]; (repeat' split) <;> simp
@[simp] theorem takePress_sst (p : Press) (s : State) : (takePress p s).sst = s.sst := by simp only [takePress]; (repeat' split) <;> simp
@[simp] theorem takePress_clock (p : Press) (s : State) : (takePress p s).clock = s.clock := by simp only [takePress]; (repeat' split) <;> simp
@[simp] theorem takePress_held (p : Press) (s : State) : (takePress p s).held = s.held := by simp only [takePress]; (repeat' split) <;> simp
@[simp] theorem takePress_pins (p : Press) (s : State) : (takePress p s).pins = s.pins := by simp only [takePress]; (repeat' split) <;> simp
@[simp] theorem takePress_free (p : Press) (s : State) : (takePress p s).free = s.free := by simp only [takePress]; (repeat' split) <;> simp
@[simp] theorem takePress_pending (p : Press) (s : State) : (takePress p s).pending = s.pending := by simp only [takePress]; (repeat' split) <;> simp

@[simp] theorem takeMove_kfs (xy : Nat × Nat) (s : State) : (takeMove xy s).kfs = s.kfs := by simp only [takeMove]; (repeat' split) <;> simp
@[simp] theorem takeMove_kq (xy : Nat × Nat) (s : State) : (takeMove xy s).kq = s.kq := by simp only [takeMove]; (repeat' split) <;> simp
@[simp] theorem takeMove_crm (xy : Nat × Nat) (s : State) : (takeMove xy s).crm = s.crm := by simp only [takeMove]; (repeat' split) <;> simp
@[simp] theorem takeMove_mlu (xy : Nat × Nat) (s : State) : (takeMove xy s).mlu = s.mlu := by simp only [takeMove]; (repeat' split) <;> simp
@[simp] theorem takeMove_kr (xy : Nat × Nat) (s : State) : (takeMove xy s).kr = s.kr := by simp only [takeMove]; (repeat' split) <;> simp
@[simp] theorem takeMove_dss (xy : Nat × Nat) (s : State) : (takeMove xy s).dss = s.dss := by simp only [takeMove]; (repeat' split) <;> simp
@[simp] theorem takeMove_tpi (xy : Nat × Nat) (s : State) : (takeMove xy s).tpi = s.tpi := by simp only [takeMove]; (repeat' split) <;> simp
@[simp] theorem takeMove_blr (xy : Nat × Nat) (s : State) : (takeMove xy s).blr = s.blr := by simp only [takeMove]; (repeat' split) <;> simp
@[simp] theorem takeMove_dlp (xy : Nat × Nat) (s : State) : (takeMove xy s).dlp = s.dlp := by simp only [takeMove]; (repeat' split) <;> simp
@[simp] theorem takeMove_vp (xy : Nat × Nat) (s : State) : (takeMove xy s).vp = s.vp := by simp only [takeMove]; (repeat' split) <;> simp
@[simp] theorem takeMove_axl (xy : Nat × Nat) (s : State) : (takeMove xy s).axl = s.axl := by simp only [takeMove]; (repeat' split) <;> simp
@[simp] theorem takeMove_sst (xy : Nat × Nat) (s : State) : (takeMove xy s).sst = s.sst := by simp only [takeMove]; (repeat' split) <;> simp
@[simp] theorem takeMove_clock (xy : Nat × Nat) (s : State) : (takeMove xy s).clock = s.clock := by simp only [takeMove]; (repeat' split) <;> simp
@[simp] theorem takeMove_held (xy : Nat × Nat) (s : State) : (takeMove xy s).held = s.held := by simp only [takeMove]; (repeat' split) <;> simp
@[simp] theorem takeMove_pins (xy : Nat × Nat) (s : State) : (takeMove xy s).pins = s.pins := by simp only [takeMove]; (repeat' split) <;> simp
@[simp] theorem takeMove_free (xy : Nat × Nat) (s : State) : (takeMove xy s).free = s.free := by simp only [takeMove]; (repeat' split) <;> simp
@[simp] theorem takeMove_pending (xy : Nat × Nat) (s : State) : (takeMove xy s).pending = s.pending := by simp only [takeMove]; (repeat' split) <;> simp

@[simp] theorem takeRepeatExpiry_kfs (o : Timer) (e : HeldEntry) (s : State) : (takeRepeatExpiry o e s).kfs = s.kfs := by simp only [takeRepeatExpiry]; simp
@[simp] theorem takeRepeatExpiry_kq (o : Timer) (e : HeldEntry) (s : State) : (takeRepeatExpiry o e s).kq = s.kq := by simp only [takeRepeatExpiry]; simp
@[simp] theorem takeRepeatExpiry_crm (o : Timer) (e : HeldEntry) (s : State) : (takeRepeatExpiry o e s).crm = s.crm := by simp only [takeRepeatExpiry]; simp
@[simp] theorem takeRepeatExpiry_mlu (o : Timer) (e : HeldEntry) (s : State) : (takeRepeatExpiry o e s).mlu = s.mlu := by simp only [takeRepeatExpiry]; simp
@[simp] theorem takeRepeatExpiry_dss (o : Timer) (e : HeldEntry) (s : State) : (takeRepeatExpiry o e s).dss = s.dss := by simp only [takeRepeatExpiry]; simp
@[simp] theorem takeRepeatExpiry_tpi (o : Timer) (e : HeldEntry) (s : State) : (takeRepeatExpiry o e s).tpi = s.tpi := by simp only [takeRepeatExpiry]; simp
@[simp] theorem takeRepeatExpiry_blr (o : Timer) (e : HeldEntry) (s : State) : (takeRepeatExpiry o e s).blr = s.blr := by simp only [takeRepeatExpiry]; simp
@[simp] theorem takeRepeatExpiry_dlp (o : Timer) (e : HeldEntry) (s : State) : (takeRepeatExpiry o e s).dlp = s.dlp := by simp only [takeRepeatExpiry]; simp
@[simp] theorem takeRepeatExpiry_vp (o : Timer) (e : HeldEntry) (s : State) : (takeRepeatExpiry o e s).vp = s.vp := by simp only [takeRepeatExpiry]; simp
@[simp] theorem takeRepeatExpiry_axl (o : Timer) (e : HeldEntry) (s : State) : (takeRepeatExpiry o e s).axl = s.axl := by simp only [takeRepeatExpiry]; simp
@[simp] theorem takeRepeatExpiry_sst (o : Timer) (e : HeldEntry) (s : State) : (takeRepeatExpiry o e s).sst = s.sst := by simp only [takeRepeatExpiry]; simp
@[simp] theorem takeRepeatExpiry_clock (o : Timer) (e : HeldEntry) (s : State) : (takeRepeatExpiry o e s).clock = s.clock := by simp only [takeRepeatExpiry]; simp
@[simp] theorem takeRepeatExpiry_held (o : Timer) (e : HeldEntry) (s : State) : (takeRepeatExpiry o e s).held = s.held := by simp only [takeRepeatExpiry]; simp
@[simp] theorem takeRepeatExpiry_pins (o : Timer) (e : HeldEntry) (s : State) : (takeRepeatExpiry o e s).pins = s.pins := by simp only [takeRepeatExpiry]; simp
@[simp] theorem takeRepeatExpiry_free (o : Timer) (e : HeldEntry) (s : State) : (takeRepeatExpiry o e s).free = s.free := by simp only [takeRepeatExpiry]; simp
@[simp] theorem takeRepeatExpiry_pending (o : Timer) (e : HeldEntry) (s : State) : (takeRepeatExpiry o e s).pending = s.pending := by simp only [takeRepeatExpiry]; simp

@[simp] theorem portLoss_kfs (m : Master) (s : State) : (portLoss m s).kfs = s.kfs := by cases m <;> simp [portLoss]
@[simp] theorem portLoss_kq (m : Master) (s : State) : (portLoss m s).kq = s.kq := by cases m <;> simp [portLoss]
@[simp] theorem portLoss_crm (m : Master) (s : State) : (portLoss m s).crm = s.crm := by cases m <;> simp [portLoss]
@[simp] theorem portLoss_dss (m : Master) (s : State) : (portLoss m s).dss = s.dss := by cases m <;> simp [portLoss]
@[simp] theorem portLoss_tpi (m : Master) (s : State) : (portLoss m s).tpi = s.tpi := by cases m <;> simp [portLoss]
@[simp] theorem portLoss_blr (m : Master) (s : State) : (portLoss m s).blr = s.blr := by cases m <;> simp [portLoss]
@[simp] theorem portLoss_axl (m : Master) (s : State) : (portLoss m s).axl = s.axl := by cases m <;> simp [portLoss]
@[simp] theorem portLoss_sst (m : Master) (s : State) : (portLoss m s).sst = s.sst := by cases m <;> simp [portLoss]
@[simp] theorem portLoss_clock (m : Master) (s : State) : (portLoss m s).clock = s.clock := by cases m <;> simp [portLoss]
@[simp] theorem portLoss_held (m : Master) (s : State) : (portLoss m s).held = s.held := by cases m <;> simp [portLoss]
@[simp] theorem portLoss_pins (m : Master) (s : State) : (portLoss m s).pins = s.pins := by cases m <;> simp [portLoss]
@[simp] theorem portLoss_free (m : Master) (s : State) : (portLoss m s).free = s.free := by cases m <;> simp [portLoss]
@[simp] theorem portLoss_pending (m : Master) (s : State) : (portLoss m s).pending = s.pending := by cases m <;> simp [portLoss]

@[simp] theorem retarget_kfs (s : State) : (retarget s).kfs = s.kfs := by simp only [retarget]; simp
@[simp] theorem retarget_kq (s : State) : (retarget s).kq = s.kq := by simp only [retarget]; simp
@[simp] theorem retarget_crm (s : State) : (retarget s).crm = s.crm := by simp only [retarget]; simp
@[simp] theorem retarget_mlu (s : State) : (retarget s).mlu = s.mlu := by simp only [retarget]; simp
@[simp] theorem retarget_kr (s : State) : (retarget s).kr = s.kr := by simp only [retarget]; simp
@[simp] theorem retarget_tq (s : State) : (retarget s).tq = s.tq := by simp only [retarget]; simp
@[simp] theorem retarget_gq (s : State) : (retarget s).gq = s.gq := by simp only [retarget]; simp
@[simp] theorem retarget_dss (s : State) : (retarget s).dss = s.dss := by simp only [retarget]; simp
@[simp] theorem retarget_tpi (s : State) : (retarget s).tpi = s.tpi := by simp only [retarget]; simp
@[simp] theorem retarget_dlp (s : State) : (retarget s).dlp = s.dlp := by simp only [retarget]; simp
@[simp] theorem retarget_vp (s : State) : (retarget s).vp = s.vp := by simp only [retarget]; simp
@[simp] theorem retarget_axl (s : State) : (retarget s).axl = s.axl := by simp only [retarget]; simp
@[simp] theorem retarget_sst (s : State) : (retarget s).sst = s.sst := by simp only [retarget]; simp
@[simp] theorem retarget_clock (s : State) : (retarget s).clock = s.clock := by simp only [retarget]; simp
@[simp] theorem retarget_held (s : State) : (retarget s).held = s.held := by simp only [retarget]; simp
@[simp] theorem retarget_pins (s : State) : (retarget s).pins = s.pins := by simp only [retarget]; simp
@[simp] theorem retarget_free (s : State) : (retarget s).free = s.free := by simp only [retarget]; simp
@[simp] theorem retarget_pending (s : State) : (retarget s).pending = s.pending := by simp only [retarget]; simp

@[simp] theorem applyCap_kfs (s : State) : (applyCap s).kfs = s.kfs := by simp only [applyCap]; simp
@[simp] theorem applyCap_kq (s : State) : (applyCap s).kq = s.kq := by simp only [applyCap]; simp
@[simp] theorem applyCap_crm (s : State) : (applyCap s).crm = s.crm := by simp only [applyCap]; simp
@[simp] theorem applyCap_mlu (s : State) : (applyCap s).mlu = s.mlu := by simp only [applyCap]; simp
@[simp] theorem applyCap_kr (s : State) : (applyCap s).kr = s.kr := by simp only [applyCap]; simp
@[simp] theorem applyCap_tq (s : State) : (applyCap s).tq = s.tq := by simp only [applyCap]; simp
@[simp] theorem applyCap_gq (s : State) : (applyCap s).gq = s.gq := by simp only [applyCap]; simp
@[simp] theorem applyCap_dss (s : State) : (applyCap s).dss = s.dss := by simp only [applyCap]; simp
@[simp] theorem applyCap_tpi (s : State) : (applyCap s).tpi = s.tpi := by simp only [applyCap]; simp
@[simp] theorem applyCap_dlp (s : State) : (applyCap s).dlp = s.dlp := by simp only [applyCap]; simp
@[simp] theorem applyCap_vp (s : State) : (applyCap s).vp = s.vp := by simp only [applyCap]; simp
@[simp] theorem applyCap_axl (s : State) : (applyCap s).axl = s.axl := by simp only [applyCap]; simp
@[simp] theorem applyCap_sst (s : State) : (applyCap s).sst = s.sst := by simp only [applyCap]; simp
@[simp] theorem applyCap_clock (s : State) : (applyCap s).clock = s.clock := by simp only [applyCap]; simp
@[simp] theorem applyCap_held (s : State) : (applyCap s).held = s.held := by simp only [applyCap]; simp
@[simp] theorem applyCap_pins (s : State) : (applyCap s).pins = s.pins := by simp only [applyCap]; simp
@[simp] theorem applyCap_free (s : State) : (applyCap s).free = s.free := by simp only [applyCap]; simp
@[simp] theorem applyCap_pending (s : State) : (applyCap s).pending = s.pending := by simp only [applyCap]; simp

@[simp] theorem deriveDisplay_kfs (s : State) : (deriveDisplay s).kfs = s.kfs := by simp only [deriveDisplay]; (repeat' split) <;> simp
@[simp] theorem deriveDisplay_kq (s : State) : (deriveDisplay s).kq = s.kq := by simp only [deriveDisplay]; (repeat' split) <;> simp
@[simp] theorem deriveDisplay_crm (s : State) : (deriveDisplay s).crm = s.crm := by simp only [deriveDisplay]; (repeat' split) <;> simp
@[simp] theorem deriveDisplay_mlu (s : State) : (deriveDisplay s).mlu = s.mlu := by simp only [deriveDisplay]; (repeat' split) <;> simp
@[simp] theorem deriveDisplay_kr (s : State) : (deriveDisplay s).kr = s.kr := by simp only [deriveDisplay]; (repeat' split) <;> simp
@[simp] theorem deriveDisplay_tq (s : State) : (deriveDisplay s).tq = s.tq := by simp only [deriveDisplay]; (repeat' split) <;> simp
@[simp] theorem deriveDisplay_gq (s : State) : (deriveDisplay s).gq = s.gq := by simp only [deriveDisplay]; (repeat' split) <;> simp
@[simp] theorem deriveDisplay_tpi (s : State) : (deriveDisplay s).tpi = s.tpi := by simp only [deriveDisplay]; (repeat' split) <;> simp
@[simp] theorem deriveDisplay_dlp (s : State) : (deriveDisplay s).dlp = s.dlp := by simp only [deriveDisplay]; (repeat' split) <;> simp
@[simp] theorem deriveDisplay_vp (s : State) : (deriveDisplay s).vp = s.vp := by simp only [deriveDisplay]; (repeat' split) <;> simp
@[simp] theorem deriveDisplay_axl (s : State) : (deriveDisplay s).axl = s.axl := by simp only [deriveDisplay]; (repeat' split) <;> simp
@[simp] theorem deriveDisplay_sst (s : State) : (deriveDisplay s).sst = s.sst := by simp only [deriveDisplay]; (repeat' split) <;> simp
@[simp] theorem deriveDisplay_clock (s : State) : (deriveDisplay s).clock = s.clock := by simp only [deriveDisplay]; (repeat' split) <;> simp
@[simp] theorem deriveDisplay_held (s : State) : (deriveDisplay s).held = s.held := by simp only [deriveDisplay]; (repeat' split) <;> simp
@[simp] theorem deriveDisplay_pins (s : State) : (deriveDisplay s).pins = s.pins := by simp only [deriveDisplay]; (repeat' split) <;> simp
@[simp] theorem deriveDisplay_free (s : State) : (deriveDisplay s).free = s.free := by simp only [deriveDisplay]; (repeat' split) <;> simp
@[simp] theorem deriveDisplay_pending (s : State) : (deriveDisplay s).pending = s.pending := by simp only [deriveDisplay]; (repeat' split) <;> simp

@[simp] theorem settleDisplay_kfs (s : State) : (settleDisplay s).kfs = s.kfs := by simp only [settleDisplay]; simp
@[simp] theorem settleDisplay_kq (s : State) : (settleDisplay s).kq = s.kq := by simp only [settleDisplay]; simp
@[simp] theorem settleDisplay_crm (s : State) : (settleDisplay s).crm = s.crm := by simp only [settleDisplay]; simp
@[simp] theorem settleDisplay_mlu (s : State) : (settleDisplay s).mlu = s.mlu := by simp only [settleDisplay]; simp
@[simp] theorem settleDisplay_kr (s : State) : (settleDisplay s).kr = s.kr := by simp only [settleDisplay]; simp
@[simp] theorem settleDisplay_tq (s : State) : (settleDisplay s).tq = s.tq := by simp only [settleDisplay]; simp
@[simp] theorem settleDisplay_gq (s : State) : (settleDisplay s).gq = s.gq := by simp only [settleDisplay]; simp
@[simp] theorem settleDisplay_tpi (s : State) : (settleDisplay s).tpi = s.tpi := by simp only [settleDisplay]; simp
@[simp] theorem settleDisplay_axl (s : State) : (settleDisplay s).axl = s.axl := by simp only [settleDisplay]; simp
@[simp] theorem settleDisplay_sst (s : State) : (settleDisplay s).sst = s.sst := by simp only [settleDisplay]; simp
@[simp] theorem settleDisplay_clock (s : State) : (settleDisplay s).clock = s.clock := by simp only [settleDisplay]; simp
@[simp] theorem settleDisplay_held (s : State) : (settleDisplay s).held = s.held := by simp only [settleDisplay]; simp
@[simp] theorem settleDisplay_pins (s : State) : (settleDisplay s).pins = s.pins := by simp only [settleDisplay]; simp
@[simp] theorem settleDisplay_free (s : State) : (settleDisplay s).free = s.free := by simp only [settleDisplay]; simp
@[simp] theorem settleDisplay_pending (s : State) : (settleDisplay s).pending = s.pending := by simp only [settleDisplay]; simp

@[simp] theorem setGain_kfs (g : Nat) (s : State) : (setGain g s).kfs = s.kfs := by simp only [setGain]; simp
@[simp] theorem setGain_kq (g : Nat) (s : State) : (setGain g s).kq = s.kq := by simp only [setGain]; simp
@[simp] theorem setGain_crm (g : Nat) (s : State) : (setGain g s).crm = s.crm := by simp only [setGain]; simp
@[simp] theorem setGain_mlu (g : Nat) (s : State) : (setGain g s).mlu = s.mlu := by simp only [setGain]; simp
@[simp] theorem setGain_kr (g : Nat) (s : State) : (setGain g s).kr = s.kr := by simp only [setGain]; simp
@[simp] theorem setGain_tq (g : Nat) (s : State) : (setGain g s).tq = s.tq := by simp only [setGain]; simp
@[simp] theorem setGain_gq (g : Nat) (s : State) : (setGain g s).gq = s.gq := by simp only [setGain]; simp
@[simp] theorem setGain_dss (g : Nat) (s : State) : (setGain g s).dss = s.dss := by simp only [setGain]; simp
@[simp] theorem setGain_tpi (g : Nat) (s : State) : (setGain g s).tpi = s.tpi := by simp only [setGain]; simp
@[simp] theorem setGain_dlp (g : Nat) (s : State) : (setGain g s).dlp = s.dlp := by simp only [setGain]; simp
@[simp] theorem setGain_vp (g : Nat) (s : State) : (setGain g s).vp = s.vp := by simp only [setGain]; simp
@[simp] theorem setGain_axl (g : Nat) (s : State) : (setGain g s).axl = s.axl := by simp only [setGain]; simp
@[simp] theorem setGain_sst (g : Nat) (s : State) : (setGain g s).sst = s.sst := by simp only [setGain]; simp
@[simp] theorem setGain_clock (g : Nat) (s : State) : (setGain g s).clock = s.clock := by simp only [setGain]; simp
@[simp] theorem setGain_held (g : Nat) (s : State) : (setGain g s).held = s.held := by simp only [setGain]; simp
@[simp] theorem setGain_pins (g : Nat) (s : State) : (setGain g s).pins = s.pins := by simp only [setGain]; simp
@[simp] theorem setGain_free (g : Nat) (s : State) : (setGain g s).free = s.free := by simp only [setGain]; simp
@[simp] theorem setGain_pending (g : Nat) (s : State) : (setGain g s).pending = s.pending := by simp only [setGain]; simp

@[simp] theorem takeStandbyCondition_kfs (s : State) : (takeStandbyCondition s).kfs = s.kfs := by simp only [takeStandbyCondition]; (repeat' split) <;> simp
@[simp] theorem takeStandbyCondition_kq (s : State) : (takeStandbyCondition s).kq = s.kq := by simp only [takeStandbyCondition]; (repeat' split) <;> simp
@[simp] theorem takeStandbyCondition_crm (s : State) : (takeStandbyCondition s).crm = s.crm := by simp only [takeStandbyCondition]; (repeat' split) <;> simp
@[simp] theorem takeStandbyCondition_mlu (s : State) : (takeStandbyCondition s).mlu = s.mlu := by simp only [takeStandbyCondition]; (repeat' split) <;> simp
@[simp] theorem takeStandbyCondition_kr (s : State) : (takeStandbyCondition s).kr = s.kr := by simp only [takeStandbyCondition]; (repeat' split) <;> simp
@[simp] theorem takeStandbyCondition_tq (s : State) : (takeStandbyCondition s).tq = s.tq := by simp only [takeStandbyCondition]; (repeat' split) <;> simp
@[simp] theorem takeStandbyCondition_gq (s : State) : (takeStandbyCondition s).gq = s.gq := by simp only [takeStandbyCondition]; (repeat' split) <;> simp
@[simp] theorem takeStandbyCondition_dss (s : State) : (takeStandbyCondition s).dss = s.dss := by simp only [takeStandbyCondition]; (repeat' split) <;> simp
@[simp] theorem takeStandbyCondition_tpi (s : State) : (takeStandbyCondition s).tpi = s.tpi := by simp only [takeStandbyCondition]; (repeat' split) <;> simp
@[simp] theorem takeStandbyCondition_blr (s : State) : (takeStandbyCondition s).blr = s.blr := by simp only [takeStandbyCondition]; (repeat' split) <;> simp
@[simp] theorem takeStandbyCondition_dlp (s : State) : (takeStandbyCondition s).dlp = s.dlp := by simp only [takeStandbyCondition]; (repeat' split) <;> simp
@[simp] theorem takeStandbyCondition_vp (s : State) : (takeStandbyCondition s).vp = s.vp := by simp only [takeStandbyCondition]; (repeat' split) <;> simp
@[simp] theorem takeStandbyCondition_axl (s : State) : (takeStandbyCondition s).axl = s.axl := by simp only [takeStandbyCondition]; (repeat' split) <;> simp
@[simp] theorem takeStandbyCondition_clock (s : State) : (takeStandbyCondition s).clock = s.clock := by simp only [takeStandbyCondition]; (repeat' split) <;> simp
@[simp] theorem takeStandbyCondition_held (s : State) : (takeStandbyCondition s).held = s.held := by simp only [takeStandbyCondition]; (repeat' split) <;> simp
@[simp] theorem takeStandbyCondition_pins (s : State) : (takeStandbyCondition s).pins = s.pins := by simp only [takeStandbyCondition]; (repeat' split) <;> simp
@[simp] theorem takeStandbyCondition_free (s : State) : (takeStandbyCondition s).free = s.free := by simp only [takeStandbyCondition]; (repeat' split) <;> simp
@[simp] theorem takeStandbyCondition_pending (s : State) : (takeStandbyCondition s).pending = s.pending := by simp only [takeStandbyCondition]; (repeat' split) <;> simp

@[simp] theorem resumeTouch_kfs (s : State) : (resumeTouch s).kfs = s.kfs := by simp only [resumeTouch]; (repeat' split) <;> simp
@[simp] theorem resumeTouch_kq (s : State) : (resumeTouch s).kq = s.kq := by simp only [resumeTouch]; (repeat' split) <;> simp
@[simp] theorem resumeTouch_crm (s : State) : (resumeTouch s).crm = s.crm := by simp only [resumeTouch]; (repeat' split) <;> simp
@[simp] theorem resumeTouch_mlu (s : State) : (resumeTouch s).mlu = s.mlu := by simp only [resumeTouch]; (repeat' split) <;> simp
@[simp] theorem resumeTouch_kr (s : State) : (resumeTouch s).kr = s.kr := by simp only [resumeTouch]; (repeat' split) <;> simp
@[simp] theorem resumeTouch_tq (s : State) : (resumeTouch s).tq = s.tq := by simp only [resumeTouch]; (repeat' split) <;> simp
@[simp] theorem resumeTouch_gq (s : State) : (resumeTouch s).gq = s.gq := by simp only [resumeTouch]; (repeat' split) <;> simp
@[simp] theorem resumeTouch_dss (s : State) : (resumeTouch s).dss = s.dss := by simp only [resumeTouch]; (repeat' split) <;> simp
@[simp] theorem resumeTouch_blr (s : State) : (resumeTouch s).blr = s.blr := by simp only [resumeTouch]; (repeat' split) <;> simp
@[simp] theorem resumeTouch_dlp (s : State) : (resumeTouch s).dlp = s.dlp := by simp only [resumeTouch]; (repeat' split) <;> simp
@[simp] theorem resumeTouch_vp (s : State) : (resumeTouch s).vp = s.vp := by simp only [resumeTouch]; (repeat' split) <;> simp
@[simp] theorem resumeTouch_axl (s : State) : (resumeTouch s).axl = s.axl := by simp only [resumeTouch]; (repeat' split) <;> simp
@[simp] theorem resumeTouch_sst (s : State) : (resumeTouch s).sst = s.sst := by simp only [resumeTouch]; (repeat' split) <;> simp
@[simp] theorem resumeTouch_clock (s : State) : (resumeTouch s).clock = s.clock := by simp only [resumeTouch]; (repeat' split) <;> simp
@[simp] theorem resumeTouch_held (s : State) : (resumeTouch s).held = s.held := by simp only [resumeTouch]; (repeat' split) <;> simp
@[simp] theorem resumeTouch_pins (s : State) : (resumeTouch s).pins = s.pins := by simp only [resumeTouch]; (repeat' split) <;> simp
@[simp] theorem resumeTouch_free (s : State) : (resumeTouch s).free = s.free := by simp only [resumeTouch]; (repeat' split) <;> simp
@[simp] theorem resumeTouch_pending (s : State) : (resumeTouch s).pending = s.pending := by simp only [resumeTouch]; (repeat' split) <;> simp

@[simp] theorem exitStandby_kq (s : State) : (exitStandby s).kq = s.kq := by simp only [exitStandby]; simp
@[simp] theorem exitStandby_crm (s : State) : (exitStandby s).crm = s.crm := by simp only [exitStandby]; simp
@[simp] theorem exitStandby_mlu (s : State) : (exitStandby s).mlu = s.mlu := by simp only [exitStandby]; simp
@[simp] theorem exitStandby_kr (s : State) : (exitStandby s).kr = s.kr := by simp only [exitStandby]; simp
@[simp] theorem exitStandby_tq (s : State) : (exitStandby s).tq = s.tq := by simp only [exitStandby]; simp
@[simp] theorem exitStandby_gq (s : State) : (exitStandby s).gq = s.gq := by simp only [exitStandby]; simp
@[simp] theorem exitStandby_dlp (s : State) : (exitStandby s).dlp = s.dlp := by simp only [exitStandby]; simp
@[simp] theorem exitStandby_vp (s : State) : (exitStandby s).vp = s.vp := by simp only [exitStandby]; simp
@[simp] theorem exitStandby_axl (s : State) : (exitStandby s).axl = s.axl := by simp only [exitStandby]; simp
@[simp] theorem exitStandby_clock (s : State) : (exitStandby s).clock = s.clock := by simp only [exitStandby]; simp
@[simp] theorem exitStandby_held (s : State) : (exitStandby s).held = s.held := by simp only [exitStandby]; simp
@[simp] theorem exitStandby_pins (s : State) : (exitStandby s).pins = s.pins := by simp only [exitStandby]; simp
@[simp] theorem exitStandby_free (s : State) : (exitStandby s).free = s.free := by simp only [exitStandby]; simp
@[simp] theorem exitStandby_pending (s : State) : (exitStandby s).pending = s.pending := by simp only [exitStandby]; simp

@[simp] theorem wake_kq (s : State) : (wake s).kq = s.kq := by simp only [wake]; (repeat' split) <;> simp
@[simp] theorem wake_crm (s : State) : (wake s).crm = s.crm := by simp only [wake]; (repeat' split) <;> simp
@[simp] theorem wake_mlu (s : State) : (wake s).mlu = s.mlu := by simp only [wake]; (repeat' split) <;> simp
@[simp] theorem wake_kr (s : State) : (wake s).kr = s.kr := by simp only [wake]; (repeat' split) <;> simp
@[simp] theorem wake_tq (s : State) : (wake s).tq = s.tq := by simp only [wake]; (repeat' split) <;> simp
@[simp] theorem wake_gq (s : State) : (wake s).gq = s.gq := by simp only [wake]; (repeat' split) <;> simp
@[simp] theorem wake_dlp (s : State) : (wake s).dlp = s.dlp := by simp only [wake]; (repeat' split) <;> simp
@[simp] theorem wake_vp (s : State) : (wake s).vp = s.vp := by simp only [wake]; (repeat' split) <;> simp
@[simp] theorem wake_axl (s : State) : (wake s).axl = s.axl := by simp only [wake]; (repeat' split) <;> simp
@[simp] theorem wake_clock (s : State) : (wake s).clock = s.clock := by simp only [wake]; (repeat' split) <;> simp
@[simp] theorem wake_held (s : State) : (wake s).held = s.held := by simp only [wake]; (repeat' split) <;> simp
@[simp] theorem wake_pins (s : State) : (wake s).pins = s.pins := by simp only [wake]; (repeat' split) <;> simp
@[simp] theorem wake_free (s : State) : (wake s).free = s.free := by simp only [wake]; (repeat' split) <;> simp
@[simp] theorem wake_pending (s : State) : (wake s).pending = s.pending := by simp only [wake]; (repeat' split) <;> simp

@[simp] theorem engage_kfs (s : State) : (engage s).kfs = s.kfs := by simp only [engage]; (repeat' split) <;> simp
@[simp] theorem engage_kq (s : State) : (engage s).kq = s.kq := by simp only [engage]; (repeat' split) <;> simp
@[simp] theorem engage_crm (s : State) : (engage s).crm = s.crm := by simp only [engage]; (repeat' split) <;> simp
@[simp] theorem engage_kr (s : State) : (engage s).kr = s.kr := by simp only [engage]; (repeat' split) <;> simp
@[simp] theorem engage_tq (s : State) : (engage s).tq = s.tq := by simp only [engage]; (repeat' split) <;> simp
@[simp] theorem engage_gq (s : State) : (engage s).gq = s.gq := by simp only [engage]; (repeat' split) <;> simp
@[simp] theorem engage_dss (s : State) : (engage s).dss = s.dss := by simp only [engage]; (repeat' split) <;> simp
@[simp] theorem engage_tpi (s : State) : (engage s).tpi = s.tpi := by simp only [engage]; (repeat' split) <;> simp
@[simp] theorem engage_blr (s : State) : (engage s).blr = s.blr := by simp only [engage]; (repeat' split) <;> simp
@[simp] theorem engage_axl (s : State) : (engage s).axl = s.axl := by simp only [engage]; (repeat' split) <;> simp
@[simp] theorem engage_sst (s : State) : (engage s).sst = s.sst := by simp only [engage]; (repeat' split) <;> simp
@[simp] theorem engage_clock (s : State) : (engage s).clock = s.clock := by simp only [engage]; (repeat' split) <;> simp
@[simp] theorem engage_held (s : State) : (engage s).held = s.held := by simp only [engage]; (repeat' split) <;> simp
@[simp] theorem engage_pins (s : State) : (engage s).pins = s.pins := by simp only [engage]; (repeat' split) <;> simp
@[simp] theorem engage_free (s : State) : (engage s).free = s.free := by simp only [engage]; (repeat' split) <;> simp
@[simp] theorem engage_pending (s : State) : (engage s).pending = s.pending := by simp only [engage]; (repeat' split) <;> simp

@[simp] theorem takeCondition_kfs (s : State) : (takeCondition s).kfs = s.kfs := by simp only [takeCondition]; (repeat' split) <;> simp
@[simp] theorem takeCondition_kq (s : State) : (takeCondition s).kq = s.kq := by simp only [takeCondition]; (repeat' split) <;> simp
@[simp] theorem takeCondition_crm (s : State) : (takeCondition s).crm = s.crm := by simp only [takeCondition]; (repeat' split) <;> simp
@[simp] theorem takeCondition_kr (s : State) : (takeCondition s).kr = s.kr := by simp only [takeCondition]; (repeat' split) <;> simp
@[simp] theorem takeCondition_tq (s : State) : (takeCondition s).tq = s.tq := by simp only [takeCondition]; (repeat' split) <;> simp
@[simp] theorem takeCondition_gq (s : State) : (takeCondition s).gq = s.gq := by simp only [takeCondition]; (repeat' split) <;> simp
@[simp] theorem takeCondition_dss (s : State) : (takeCondition s).dss = s.dss := by simp only [takeCondition]; (repeat' split) <;> simp
@[simp] theorem takeCondition_tpi (s : State) : (takeCondition s).tpi = s.tpi := by simp only [takeCondition]; (repeat' split) <;> simp
@[simp] theorem takeCondition_blr (s : State) : (takeCondition s).blr = s.blr := by simp only [takeCondition]; (repeat' split) <;> simp
@[simp] theorem takeCondition_axl (s : State) : (takeCondition s).axl = s.axl := by simp only [takeCondition]; (repeat' split) <;> simp
@[simp] theorem takeCondition_sst (s : State) : (takeCondition s).sst = s.sst := by simp only [takeCondition]; (repeat' split) <;> simp
@[simp] theorem takeCondition_clock (s : State) : (takeCondition s).clock = s.clock := by simp only [takeCondition]; (repeat' split) <;> simp
@[simp] theorem takeCondition_held (s : State) : (takeCondition s).held = s.held := by simp only [takeCondition]; (repeat' split) <;> simp
@[simp] theorem takeCondition_pins (s : State) : (takeCondition s).pins = s.pins := by simp only [takeCondition]; (repeat' split) <;> simp
@[simp] theorem takeCondition_free (s : State) : (takeCondition s).free = s.free := by simp only [takeCondition]; (repeat' split) <;> simp
@[simp] theorem takeCondition_pending (s : State) : (takeCondition s).pending = s.pending := by simp only [takeCondition]; (repeat' split) <;> simp

@[simp] theorem takeConditionIfTaken_kfs (s : State) : (takeConditionIfTaken s).kfs = s.kfs := by simp only [takeConditionIfTaken]; (repeat' split) <;> simp
@[simp] theorem takeConditionIfTaken_kq (s : State) : (takeConditionIfTaken s).kq = s.kq := by simp only [takeConditionIfTaken]; (repeat' split) <;> simp
@[simp] theorem takeConditionIfTaken_crm (s : State) : (takeConditionIfTaken s).crm = s.crm := by simp only [takeConditionIfTaken]; (repeat' split) <;> simp
@[simp] theorem takeConditionIfTaken_kr (s : State) : (takeConditionIfTaken s).kr = s.kr := by simp only [takeConditionIfTaken]; (repeat' split) <;> simp
@[simp] theorem takeConditionIfTaken_tq (s : State) : (takeConditionIfTaken s).tq = s.tq := by simp only [takeConditionIfTaken]; (repeat' split) <;> simp
@[simp] theorem takeConditionIfTaken_gq (s : State) : (takeConditionIfTaken s).gq = s.gq := by simp only [takeConditionIfTaken]; (repeat' split) <;> simp
@[simp] theorem takeConditionIfTaken_dss (s : State) : (takeConditionIfTaken s).dss = s.dss := by simp only [takeConditionIfTaken]; (repeat' split) <;> simp
@[simp] theorem takeConditionIfTaken_tpi (s : State) : (takeConditionIfTaken s).tpi = s.tpi := by simp only [takeConditionIfTaken]; (repeat' split) <;> simp
@[simp] theorem takeConditionIfTaken_blr (s : State) : (takeConditionIfTaken s).blr = s.blr := by simp only [takeConditionIfTaken]; (repeat' split) <;> simp
@[simp] theorem takeConditionIfTaken_axl (s : State) : (takeConditionIfTaken s).axl = s.axl := by simp only [takeConditionIfTaken]; (repeat' split) <;> simp
@[simp] theorem takeConditionIfTaken_sst (s : State) : (takeConditionIfTaken s).sst = s.sst := by simp only [takeConditionIfTaken]; (repeat' split) <;> simp
@[simp] theorem takeConditionIfTaken_clock (s : State) : (takeConditionIfTaken s).clock = s.clock := by simp only [takeConditionIfTaken]; (repeat' split) <;> simp
@[simp] theorem takeConditionIfTaken_held (s : State) : (takeConditionIfTaken s).held = s.held := by simp only [takeConditionIfTaken]; (repeat' split) <;> simp
@[simp] theorem takeConditionIfTaken_pins (s : State) : (takeConditionIfTaken s).pins = s.pins := by simp only [takeConditionIfTaken]; (repeat' split) <;> simp
@[simp] theorem takeConditionIfTaken_free (s : State) : (takeConditionIfTaken s).free = s.free := by simp only [takeConditionIfTaken]; (repeat' split) <;> simp
@[simp] theorem takeConditionIfTaken_pending (s : State) : (takeConditionIfTaken s).pending = s.pending := by simp only [takeConditionIfTaken]; (repeat' split) <;> simp

@[simp] theorem firstCondition_kfs (s : State) : (firstCondition s).kfs = s.kfs := by simp only [firstCondition]; (repeat' split) <;> simp
@[simp] theorem firstCondition_kq (s : State) : (firstCondition s).kq = s.kq := by simp only [firstCondition]; (repeat' split) <;> simp
@[simp] theorem firstCondition_crm (s : State) : (firstCondition s).crm = s.crm := by simp only [firstCondition]; (repeat' split) <;> simp
@[simp] theorem firstCondition_kr (s : State) : (firstCondition s).kr = s.kr := by simp only [firstCondition]; (repeat' split) <;> simp
@[simp] theorem firstCondition_tq (s : State) : (firstCondition s).tq = s.tq := by simp only [firstCondition]; (repeat' split) <;> simp
@[simp] theorem firstCondition_gq (s : State) : (firstCondition s).gq = s.gq := by simp only [firstCondition]; (repeat' split) <;> simp
@[simp] theorem firstCondition_dss (s : State) : (firstCondition s).dss = s.dss := by simp only [firstCondition]; (repeat' split) <;> simp
@[simp] theorem firstCondition_tpi (s : State) : (firstCondition s).tpi = s.tpi := by simp only [firstCondition]; (repeat' split) <;> simp
@[simp] theorem firstCondition_blr (s : State) : (firstCondition s).blr = s.blr := by simp only [firstCondition]; (repeat' split) <;> simp
@[simp] theorem firstCondition_axl (s : State) : (firstCondition s).axl = s.axl := by simp only [firstCondition]; (repeat' split) <;> simp
@[simp] theorem firstCondition_sst (s : State) : (firstCondition s).sst = s.sst := by simp only [firstCondition]; (repeat' split) <;> simp
@[simp] theorem firstCondition_clock (s : State) : (firstCondition s).clock = s.clock := by simp only [firstCondition]; (repeat' split) <;> simp
@[simp] theorem firstCondition_held (s : State) : (firstCondition s).held = s.held := by simp only [firstCondition]; (repeat' split) <;> simp
@[simp] theorem firstCondition_pins (s : State) : (firstCondition s).pins = s.pins := by simp only [firstCondition]; (repeat' split) <;> simp
@[simp] theorem firstCondition_free (s : State) : (firstCondition s).free = s.free := by simp only [firstCondition]; (repeat' split) <;> simp
@[simp] theorem firstCondition_pending (s : State) : (firstCondition s).pending = s.pending := by simp only [firstCondition]; (repeat' split) <;> simp

@[simp] theorem deriveMotion_kfs (s : State) : (deriveMotion s).kfs = s.kfs := by simp only [deriveMotion]; (repeat' split) <;> simp
@[simp] theorem deriveMotion_kq (s : State) : (deriveMotion s).kq = s.kq := by simp only [deriveMotion]; (repeat' split) <;> simp
@[simp] theorem deriveMotion_crm (s : State) : (deriveMotion s).crm = s.crm := by simp only [deriveMotion]; (repeat' split) <;> simp
@[simp] theorem deriveMotion_kr (s : State) : (deriveMotion s).kr = s.kr := by simp only [deriveMotion]; (repeat' split) <;> simp
@[simp] theorem deriveMotion_tq (s : State) : (deriveMotion s).tq = s.tq := by simp only [deriveMotion]; (repeat' split) <;> simp
@[simp] theorem deriveMotion_gq (s : State) : (deriveMotion s).gq = s.gq := by simp only [deriveMotion]; (repeat' split) <;> simp
@[simp] theorem deriveMotion_dss (s : State) : (deriveMotion s).dss = s.dss := by simp only [deriveMotion]; (repeat' split) <;> simp
@[simp] theorem deriveMotion_tpi (s : State) : (deriveMotion s).tpi = s.tpi := by simp only [deriveMotion]; (repeat' split) <;> simp
@[simp] theorem deriveMotion_blr (s : State) : (deriveMotion s).blr = s.blr := by simp only [deriveMotion]; (repeat' split) <;> simp
@[simp] theorem deriveMotion_axl (s : State) : (deriveMotion s).axl = s.axl := by simp only [deriveMotion]; (repeat' split) <;> simp
@[simp] theorem deriveMotion_sst (s : State) : (deriveMotion s).sst = s.sst := by simp only [deriveMotion]; (repeat' split) <;> simp
@[simp] theorem deriveMotion_clock (s : State) : (deriveMotion s).clock = s.clock := by simp only [deriveMotion]; (repeat' split) <;> simp
@[simp] theorem deriveMotion_held (s : State) : (deriveMotion s).held = s.held := by simp only [deriveMotion]; (repeat' split) <;> simp
@[simp] theorem deriveMotion_pins (s : State) : (deriveMotion s).pins = s.pins := by simp only [deriveMotion]; (repeat' split) <;> simp
@[simp] theorem deriveMotion_free (s : State) : (deriveMotion s).free = s.free := by simp only [deriveMotion]; (repeat' split) <;> simp
@[simp] theorem deriveMotion_pending (s : State) : (deriveMotion s).pending = s.pending := by simp only [deriveMotion]; (repeat' split) <;> simp

@[simp] theorem ignitionReport_kq (s : State) : (ignitionReport s).kq = s.kq := by simp only [ignitionReport]; (repeat' split) <;> simp
@[simp] theorem ignitionReport_crm (s : State) : (ignitionReport s).crm = s.crm := by simp only [ignitionReport]; (repeat' split) <;> simp
@[simp] theorem ignitionReport_mlu (s : State) : (ignitionReport s).mlu = s.mlu := by simp only [ignitionReport]; (repeat' split) <;> simp
@[simp] theorem ignitionReport_kr (s : State) : (ignitionReport s).kr = s.kr := by simp only [ignitionReport]; (repeat' split) <;> simp
@[simp] theorem ignitionReport_tq (s : State) : (ignitionReport s).tq = s.tq := by simp only [ignitionReport]; (repeat' split) <;> simp
@[simp] theorem ignitionReport_gq (s : State) : (ignitionReport s).gq = s.gq := by simp only [ignitionReport]; (repeat' split) <;> simp
@[simp] theorem ignitionReport_dlp (s : State) : (ignitionReport s).dlp = s.dlp := by simp only [ignitionReport]; (repeat' split) <;> simp
@[simp] theorem ignitionReport_vp (s : State) : (ignitionReport s).vp = s.vp := by simp only [ignitionReport]; (repeat' split) <;> simp
@[simp] theorem ignitionReport_axl (s : State) : (ignitionReport s).axl = s.axl := by simp only [ignitionReport]; (repeat' split) <;> simp
@[simp] theorem ignitionReport_clock (s : State) : (ignitionReport s).clock = s.clock := by simp only [ignitionReport]; (repeat' split) <;> simp
@[simp] theorem ignitionReport_held (s : State) : (ignitionReport s).held = s.held := by simp only [ignitionReport]; (repeat' split) <;> simp
@[simp] theorem ignitionReport_pins (s : State) : (ignitionReport s).pins = s.pins := by simp only [ignitionReport]; (repeat' split) <;> simp
@[simp] theorem ignitionReport_free (s : State) : (ignitionReport s).free = s.free := by simp only [ignitionReport]; (repeat' split) <;> simp
@[simp] theorem ignitionReport_pending (s : State) : (ignitionReport s).pending = s.pending := by simp only [ignitionReport]; (repeat' split) <;> simp

@[simp] theorem reportSignals_kq (o : Signals) (s : State) : (reportSignals o s).kq = s.kq := by simp only [reportSignals]; (repeat' split) <;> simp
@[simp] theorem reportSignals_crm (o : Signals) (s : State) : (reportSignals o s).crm = s.crm := by simp only [reportSignals]; (repeat' split) <;> simp
@[simp] theorem reportSignals_mlu (o : Signals) (s : State) : (reportSignals o s).mlu = s.mlu := by simp only [reportSignals]; (repeat' split) <;> simp
@[simp] theorem reportSignals_kr (o : Signals) (s : State) : (reportSignals o s).kr = s.kr := by simp only [reportSignals]; (repeat' split) <;> simp
@[simp] theorem reportSignals_tq (o : Signals) (s : State) : (reportSignals o s).tq = s.tq := by simp only [reportSignals]; (repeat' split) <;> simp
@[simp] theorem reportSignals_gq (o : Signals) (s : State) : (reportSignals o s).gq = s.gq := by simp only [reportSignals]; (repeat' split) <;> simp
@[simp] theorem reportSignals_dlp (o : Signals) (s : State) : (reportSignals o s).dlp = s.dlp := by simp only [reportSignals]; (repeat' split) <;> simp
@[simp] theorem reportSignals_vp (o : Signals) (s : State) : (reportSignals o s).vp = s.vp := by simp only [reportSignals]; (repeat' split) <;> simp
@[simp] theorem reportSignals_axl (o : Signals) (s : State) : (reportSignals o s).axl = s.axl := by simp only [reportSignals]; (repeat' split) <;> simp
@[simp] theorem reportSignals_clock (o : Signals) (s : State) : (reportSignals o s).clock = s.clock := by simp only [reportSignals]; (repeat' split) <;> simp
@[simp] theorem reportSignals_held (o : Signals) (s : State) : (reportSignals o s).held = s.held := by simp only [reportSignals]; (repeat' split) <;> simp
@[simp] theorem reportSignals_pins (o : Signals) (s : State) : (reportSignals o s).pins = s.pins := by simp only [reportSignals]; (repeat' split) <;> simp
@[simp] theorem reportSignals_free (o : Signals) (s : State) : (reportSignals o s).free = s.free := by simp only [reportSignals]; (repeat' split) <;> simp
@[simp] theorem reportSignals_pending (o : Signals) (s : State) : (reportSignals o s).pending = s.pending := by simp only [reportSignals]; (repeat' split) <;> simp

@[simp] theorem updateSignals_kq (o : Signals) (s : State) : (updateSignals o s).kq = s.kq := by simp only [updateSignals]; simp
@[simp] theorem updateSignals_crm (o : Signals) (s : State) : (updateSignals o s).crm = s.crm := by simp only [updateSignals]; simp
@[simp] theorem updateSignals_kr (o : Signals) (s : State) : (updateSignals o s).kr = s.kr := by simp only [updateSignals]; simp
@[simp] theorem updateSignals_tq (o : Signals) (s : State) : (updateSignals o s).tq = s.tq := by simp only [updateSignals]; simp
@[simp] theorem updateSignals_gq (o : Signals) (s : State) : (updateSignals o s).gq = s.gq := by simp only [updateSignals]; simp
@[simp] theorem updateSignals_dlp (o : Signals) (s : State) : (updateSignals o s).dlp = s.dlp := by simp only [updateSignals]; simp
@[simp] theorem updateSignals_vp (o : Signals) (s : State) : (updateSignals o s).vp = s.vp := by simp only [updateSignals]; simp
@[simp] theorem updateSignals_axl (o : Signals) (s : State) : (updateSignals o s).axl = s.axl := by simp only [updateSignals]; simp
@[simp] theorem updateSignals_clock (o : Signals) (s : State) : (updateSignals o s).clock = s.clock := by simp only [updateSignals]; simp
@[simp] theorem updateSignals_held (o : Signals) (s : State) : (updateSignals o s).held = s.held := by simp only [updateSignals]; simp
@[simp] theorem updateSignals_pins (o : Signals) (s : State) : (updateSignals o s).pins = s.pins := by simp only [updateSignals]; simp
@[simp] theorem updateSignals_free (o : Signals) (s : State) : (updateSignals o s).free = s.free := by simp only [updateSignals]; simp
@[simp] theorem updateSignals_pending (o : Signals) (s : State) : (updateSignals o s).pending = s.pending := by simp only [updateSignals]; simp

@[simp] theorem resourceSignals_kq (s : State) : (resourceSignals s).kq = s.kq := by simp only [resourceSignals]; (repeat' split) <;> simp
@[simp] theorem resourceSignals_crm (s : State) : (resourceSignals s).crm = s.crm := by simp only [resourceSignals]; (repeat' split) <;> simp
@[simp] theorem resourceSignals_kr (s : State) : (resourceSignals s).kr = s.kr := by simp only [resourceSignals]; (repeat' split) <;> simp
@[simp] theorem resourceSignals_tq (s : State) : (resourceSignals s).tq = s.tq := by simp only [resourceSignals]; (repeat' split) <;> simp
@[simp] theorem resourceSignals_gq (s : State) : (resourceSignals s).gq = s.gq := by simp only [resourceSignals]; (repeat' split) <;> simp
@[simp] theorem resourceSignals_axl (s : State) : (resourceSignals s).axl = s.axl := by simp only [resourceSignals]; (repeat' split) <;> simp
@[simp] theorem resourceSignals_clock (s : State) : (resourceSignals s).clock = s.clock := by simp only [resourceSignals]; (repeat' split) <;> simp
@[simp] theorem resourceSignals_held (s : State) : (resourceSignals s).held = s.held := by simp only [resourceSignals]; (repeat' split) <;> simp
@[simp] theorem resourceSignals_pins (s : State) : (resourceSignals s).pins = s.pins := by simp only [resourceSignals]; (repeat' split) <;> simp
@[simp] theorem resourceSignals_free (s : State) : (resourceSignals s).free = s.free := by simp only [resourceSignals]; (repeat' split) <;> simp
@[simp] theorem resourceSignals_pending (s : State) : (resourceSignals s).pending = s.pending := by simp only [resourceSignals]; (repeat' split) <;> simp

@[simp] theorem lineReport_kq (f : LineFunction) (s : State) : (lineReport f s).kq = s.kq := by simp only [lineReport]; (repeat' split) <;> simp
@[simp] theorem lineReport_crm (f : LineFunction) (s : State) : (lineReport f s).crm = s.crm := by simp only [lineReport]; (repeat' split) <;> simp
@[simp] theorem lineReport_kr (f : LineFunction) (s : State) : (lineReport f s).kr = s.kr := by simp only [lineReport]; (repeat' split) <;> simp
@[simp] theorem lineReport_tq (f : LineFunction) (s : State) : (lineReport f s).tq = s.tq := by simp only [lineReport]; (repeat' split) <;> simp
@[simp] theorem lineReport_gq (f : LineFunction) (s : State) : (lineReport f s).gq = s.gq := by simp only [lineReport]; (repeat' split) <;> simp
@[simp] theorem lineReport_axl (f : LineFunction) (s : State) : (lineReport f s).axl = s.axl := by simp only [lineReport]; (repeat' split) <;> simp
@[simp] theorem lineReport_clock (f : LineFunction) (s : State) : (lineReport f s).clock = s.clock := by simp only [lineReport]; (repeat' split) <;> simp
@[simp] theorem lineReport_held (f : LineFunction) (s : State) : (lineReport f s).held = s.held := by simp only [lineReport]; (repeat' split) <;> simp
@[simp] theorem lineReport_pins (f : LineFunction) (s : State) : (lineReport f s).pins = s.pins := by simp only [lineReport]; (repeat' split) <;> simp
@[simp] theorem lineReport_free (f : LineFunction) (s : State) : (lineReport f s).free = s.free := by simp only [lineReport]; (repeat' split) <;> simp
@[simp] theorem lineReport_pending (f : LineFunction) (s : State) : (lineReport f s).pending = s.pending := by simp only [lineReport]; (repeat' split) <;> simp

@[simp] theorem takeVehicleState_kq (d : List Byte) (s : State) : (takeVehicleState d s).kq = s.kq := by simp only [takeVehicleState]; simp
@[simp] theorem takeVehicleState_crm (d : List Byte) (s : State) : (takeVehicleState d s).crm = s.crm := by simp only [takeVehicleState]; simp
@[simp] theorem takeVehicleState_kr (d : List Byte) (s : State) : (takeVehicleState d s).kr = s.kr := by simp only [takeVehicleState]; simp
@[simp] theorem takeVehicleState_tq (d : List Byte) (s : State) : (takeVehicleState d s).tq = s.tq := by simp only [takeVehicleState]; simp
@[simp] theorem takeVehicleState_gq (d : List Byte) (s : State) : (takeVehicleState d s).gq = s.gq := by simp only [takeVehicleState]; simp
@[simp] theorem takeVehicleState_axl (d : List Byte) (s : State) : (takeVehicleState d s).axl = s.axl := by simp only [takeVehicleState]; simp
@[simp] theorem takeVehicleState_clock (d : List Byte) (s : State) : (takeVehicleState d s).clock = s.clock := by simp only [takeVehicleState]; simp
@[simp] theorem takeVehicleState_held (d : List Byte) (s : State) : (takeVehicleState d s).held = s.held := by simp only [takeVehicleState]; simp
@[simp] theorem takeVehicleState_pins (d : List Byte) (s : State) : (takeVehicleState d s).pins = s.pins := by simp only [takeVehicleState]; simp
@[simp] theorem takeVehicleState_free (d : List Byte) (s : State) : (takeVehicleState d s).free = s.free := by simp only [takeVehicleState]; simp
@[simp] theorem takeVehicleState_pending (d : List Byte) (s : State) : (takeVehicleState d s).pending = s.pending := by simp only [takeVehicleState]; simp

@[simp] theorem loseVehicleData_kq (s : State) : (loseVehicleData s).kq = s.kq := by simp only [loseVehicleData]; simp
@[simp] theorem loseVehicleData_crm (s : State) : (loseVehicleData s).crm = s.crm := by simp only [loseVehicleData]; simp
@[simp] theorem loseVehicleData_kr (s : State) : (loseVehicleData s).kr = s.kr := by simp only [loseVehicleData]; simp
@[simp] theorem loseVehicleData_tq (s : State) : (loseVehicleData s).tq = s.tq := by simp only [loseVehicleData]; simp
@[simp] theorem loseVehicleData_gq (s : State) : (loseVehicleData s).gq = s.gq := by simp only [loseVehicleData]; simp
@[simp] theorem loseVehicleData_axl (s : State) : (loseVehicleData s).axl = s.axl := by simp only [loseVehicleData]; simp
@[simp] theorem loseVehicleData_clock (s : State) : (loseVehicleData s).clock = s.clock := by simp only [loseVehicleData]; simp
@[simp] theorem loseVehicleData_held (s : State) : (loseVehicleData s).held = s.held := by simp only [loseVehicleData]; simp
@[simp] theorem loseVehicleData_pins (s : State) : (loseVehicleData s).pins = s.pins := by simp only [loseVehicleData]; simp
@[simp] theorem loseVehicleData_free (s : State) : (loseVehicleData s).free = s.free := by simp only [loseVehicleData]; simp
@[simp] theorem loseVehicleData_pending (s : State) : (loseVehicleData s).pending = s.pending := by simp only [loseVehicleData]; simp

@[simp] theorem staleStep_kq (s : State) : (staleStep s).kq = s.kq := by simp only [staleStep]; (repeat' split) <;> simp
@[simp] theorem staleStep_crm (s : State) : (staleStep s).crm = s.crm := by simp only [staleStep]; (repeat' split) <;> simp
@[simp] theorem staleStep_kr (s : State) : (staleStep s).kr = s.kr := by simp only [staleStep]; (repeat' split) <;> simp
@[simp] theorem staleStep_tq (s : State) : (staleStep s).tq = s.tq := by simp only [staleStep]; (repeat' split) <;> simp
@[simp] theorem staleStep_gq (s : State) : (staleStep s).gq = s.gq := by simp only [staleStep]; (repeat' split) <;> simp
@[simp] theorem staleStep_axl (s : State) : (staleStep s).axl = s.axl := by simp only [staleStep]; (repeat' split) <;> simp
@[simp] theorem staleStep_clock (s : State) : (staleStep s).clock = s.clock := by simp only [staleStep]; (repeat' split) <;> simp
@[simp] theorem staleStep_held (s : State) : (staleStep s).held = s.held := by simp only [staleStep]; (repeat' split) <;> simp
@[simp] theorem staleStep_pins (s : State) : (staleStep s).pins = s.pins := by simp only [staleStep]; (repeat' split) <;> simp
@[simp] theorem staleStep_free (s : State) : (staleStep s).free = s.free := by simp only [staleStep]; (repeat' split) <;> simp
@[simp] theorem staleStep_pending (s : State) : (staleStep s).pending = s.pending := by simp only [staleStep]; (repeat' split) <;> simp

@[simp] theorem loadReportSlot_kfs (s : State) : (loadReportSlot s).kfs = s.kfs := by simp only [loadReportSlot]; (repeat' split) <;> simp
@[simp] theorem loadReportSlot_kq (s : State) : (loadReportSlot s).kq = s.kq := by simp only [loadReportSlot]; (repeat' split) <;> simp
@[simp] theorem loadReportSlot_crm (s : State) : (loadReportSlot s).crm = s.crm := by simp only [loadReportSlot]; (repeat' split) <;> simp
@[simp] theorem loadReportSlot_mlu (s : State) : (loadReportSlot s).mlu = s.mlu := by simp only [loadReportSlot]; (repeat' split) <;> simp
@[simp] theorem loadReportSlot_kr (s : State) : (loadReportSlot s).kr = s.kr := by simp only [loadReportSlot]; (repeat' split) <;> simp
@[simp] theorem loadReportSlot_tq (s : State) : (loadReportSlot s).tq = s.tq := by simp only [loadReportSlot]; (repeat' split) <;> simp
@[simp] theorem loadReportSlot_dss (s : State) : (loadReportSlot s).dss = s.dss := by simp only [loadReportSlot]; (repeat' split) <;> simp
@[simp] theorem loadReportSlot_tpi (s : State) : (loadReportSlot s).tpi = s.tpi := by simp only [loadReportSlot]; (repeat' split) <;> simp
@[simp] theorem loadReportSlot_blr (s : State) : (loadReportSlot s).blr = s.blr := by simp only [loadReportSlot]; (repeat' split) <;> simp
@[simp] theorem loadReportSlot_dlp (s : State) : (loadReportSlot s).dlp = s.dlp := by simp only [loadReportSlot]; (repeat' split) <;> simp
@[simp] theorem loadReportSlot_axl (s : State) : (loadReportSlot s).axl = s.axl := by simp only [loadReportSlot]; (repeat' split) <;> simp
@[simp] theorem loadReportSlot_sst (s : State) : (loadReportSlot s).sst = s.sst := by simp only [loadReportSlot]; (repeat' split) <;> simp
@[simp] theorem loadReportSlot_clock (s : State) : (loadReportSlot s).clock = s.clock := by simp only [loadReportSlot]; (repeat' split) <;> simp
@[simp] theorem loadReportSlot_held (s : State) : (loadReportSlot s).held = s.held := by simp only [loadReportSlot]; (repeat' split) <;> simp
@[simp] theorem loadReportSlot_pins (s : State) : (loadReportSlot s).pins = s.pins := by simp only [loadReportSlot]; (repeat' split) <;> simp
@[simp] theorem loadReportSlot_free (s : State) : (loadReportSlot s).free = s.free := by simp only [loadReportSlot]; (repeat' split) <;> simp
@[simp] theorem loadReportSlot_pending (s : State) : (loadReportSlot s).pending = s.pending := by simp only [loadReportSlot]; (repeat' split) <;> simp

@[simp] theorem loadControlSlot_kfs (s : State) : (loadControlSlot s).kfs = s.kfs := by simp only [loadControlSlot]; (repeat' split) <;> simp
@[simp] theorem loadControlSlot_kq (s : State) : (loadControlSlot s).kq = s.kq := by simp only [loadControlSlot]; (repeat' split) <;> simp
@[simp] theorem loadControlSlot_crm (s : State) : (loadControlSlot s).crm = s.crm := by simp only [loadControlSlot]; (repeat' split) <;> simp
@[simp] theorem loadControlSlot_mlu (s : State) : (loadControlSlot s).mlu = s.mlu := by simp only [loadControlSlot]; (repeat' split) <;> simp
@[simp] theorem loadControlSlot_kr (s : State) : (loadControlSlot s).kr = s.kr := by simp only [loadControlSlot]; (repeat' split) <;> simp
@[simp] theorem loadControlSlot_tq (s : State) : (loadControlSlot s).tq = s.tq := by simp only [loadControlSlot]; (repeat' split) <;> simp
@[simp] theorem loadControlSlot_gq (s : State) : (loadControlSlot s).gq = s.gq := by simp only [loadControlSlot]; (repeat' split) <;> simp
@[simp] theorem loadControlSlot_dss (s : State) : (loadControlSlot s).dss = s.dss := by simp only [loadControlSlot]; (repeat' split) <;> simp
@[simp] theorem loadControlSlot_tpi (s : State) : (loadControlSlot s).tpi = s.tpi := by simp only [loadControlSlot]; (repeat' split) <;> simp
@[simp] theorem loadControlSlot_blr (s : State) : (loadControlSlot s).blr = s.blr := by simp only [loadControlSlot]; (repeat' split) <;> simp
@[simp] theorem loadControlSlot_dlp (s : State) : (loadControlSlot s).dlp = s.dlp := by simp only [loadControlSlot]; (repeat' split) <;> simp
@[simp] theorem loadControlSlot_axl (s : State) : (loadControlSlot s).axl = s.axl := by simp only [loadControlSlot]; (repeat' split) <;> simp
@[simp] theorem loadControlSlot_sst (s : State) : (loadControlSlot s).sst = s.sst := by simp only [loadControlSlot]; (repeat' split) <;> simp
@[simp] theorem loadControlSlot_clock (s : State) : (loadControlSlot s).clock = s.clock := by simp only [loadControlSlot]; (repeat' split) <;> simp
@[simp] theorem loadControlSlot_held (s : State) : (loadControlSlot s).held = s.held := by simp only [loadControlSlot]; (repeat' split) <;> simp
@[simp] theorem loadControlSlot_pins (s : State) : (loadControlSlot s).pins = s.pins := by simp only [loadControlSlot]; (repeat' split) <;> simp
@[simp] theorem loadControlSlot_free (s : State) : (loadControlSlot s).free = s.free := by simp only [loadControlSlot]; (repeat' split) <;> simp
@[simp] theorem loadControlSlot_pending (s : State) : (loadControlSlot s).pending = s.pending := by simp only [loadControlSlot]; (repeat' split) <;> simp

@[simp] theorem loadSlots_kfs (s : State) : (loadSlots s).kfs = s.kfs := by simp only [loadSlots]; simp
@[simp] theorem loadSlots_kq (s : State) : (loadSlots s).kq = s.kq := by simp only [loadSlots]; simp
@[simp] theorem loadSlots_crm (s : State) : (loadSlots s).crm = s.crm := by simp only [loadSlots]; simp
@[simp] theorem loadSlots_mlu (s : State) : (loadSlots s).mlu = s.mlu := by simp only [loadSlots]; simp
@[simp] theorem loadSlots_kr (s : State) : (loadSlots s).kr = s.kr := by simp only [loadSlots]; simp
@[simp] theorem loadSlots_tq (s : State) : (loadSlots s).tq = s.tq := by simp only [loadSlots]; simp
@[simp] theorem loadSlots_dss (s : State) : (loadSlots s).dss = s.dss := by simp only [loadSlots]; simp
@[simp] theorem loadSlots_tpi (s : State) : (loadSlots s).tpi = s.tpi := by simp only [loadSlots]; simp
@[simp] theorem loadSlots_blr (s : State) : (loadSlots s).blr = s.blr := by simp only [loadSlots]; simp
@[simp] theorem loadSlots_dlp (s : State) : (loadSlots s).dlp = s.dlp := by simp only [loadSlots]; simp
@[simp] theorem loadSlots_axl (s : State) : (loadSlots s).axl = s.axl := by simp only [loadSlots]; simp
@[simp] theorem loadSlots_sst (s : State) : (loadSlots s).sst = s.sst := by simp only [loadSlots]; simp
@[simp] theorem loadSlots_clock (s : State) : (loadSlots s).clock = s.clock := by simp only [loadSlots]; simp
@[simp] theorem loadSlots_held (s : State) : (loadSlots s).held = s.held := by simp only [loadSlots]; simp
@[simp] theorem loadSlots_pins (s : State) : (loadSlots s).pins = s.pins := by simp only [loadSlots]; simp
@[simp] theorem loadSlots_free (s : State) : (loadSlots s).free = s.free := by simp only [loadSlots]; simp
@[simp] theorem loadSlots_pending (s : State) : (loadSlots s).pending = s.pending := by simp only [loadSlots]; simp

@[simp] theorem drivePins_kfs (s : State) : (drivePins s).kfs = s.kfs := by simp only [drivePins]; simp
@[simp] theorem drivePins_kq (s : State) : (drivePins s).kq = s.kq := by simp only [drivePins]; simp
@[simp] theorem drivePins_crm (s : State) : (drivePins s).crm = s.crm := by simp only [drivePins]; simp
@[simp] theorem drivePins_mlu (s : State) : (drivePins s).mlu = s.mlu := by simp only [drivePins]; simp
@[simp] theorem drivePins_kr (s : State) : (drivePins s).kr = s.kr := by simp only [drivePins]; simp
@[simp] theorem drivePins_tq (s : State) : (drivePins s).tq = s.tq := by simp only [drivePins]; simp
@[simp] theorem drivePins_gq (s : State) : (drivePins s).gq = s.gq := by simp only [drivePins]; simp
@[simp] theorem drivePins_dss (s : State) : (drivePins s).dss = s.dss := by simp only [drivePins]; simp
@[simp] theorem drivePins_tpi (s : State) : (drivePins s).tpi = s.tpi := by simp only [drivePins]; simp
@[simp] theorem drivePins_blr (s : State) : (drivePins s).blr = s.blr := by simp only [drivePins]; simp
@[simp] theorem drivePins_dlp (s : State) : (drivePins s).dlp = s.dlp := by simp only [drivePins]; simp
@[simp] theorem drivePins_vp (s : State) : (drivePins s).vp = s.vp := by simp only [drivePins]; simp
@[simp] theorem drivePins_axl (s : State) : (drivePins s).axl = s.axl := by simp only [drivePins]; simp
@[simp] theorem drivePins_sst (s : State) : (drivePins s).sst = s.sst := by simp only [drivePins]; simp
@[simp] theorem drivePins_clock (s : State) : (drivePins s).clock = s.clock := by simp only [drivePins]; simp
@[simp] theorem drivePins_held (s : State) : (drivePins s).held = s.held := by simp only [drivePins]; simp
@[simp] theorem drivePins_free (s : State) : (drivePins s).free = s.free := by simp only [drivePins]; simp
@[simp] theorem drivePins_pending (s : State) : (drivePins s).pending = s.pending := by simp only [drivePins]; simp

@[simp] theorem tearPage_kfs (n : Nat) (s : State) : (tearPage n s).kfs = s.kfs := by simp only [tearPage]; simp
@[simp] theorem tearPage_kq (n : Nat) (s : State) : (tearPage n s).kq = s.kq := by simp only [tearPage]; simp
@[simp] theorem tearPage_crm (n : Nat) (s : State) : (tearPage n s).crm = s.crm := by simp only [tearPage]; simp
@[simp] theorem tearPage_mlu (n : Nat) (s : State) : (tearPage n s).mlu = s.mlu := by simp only [tearPage]; simp
@[simp] theorem tearPage_kr (n : Nat) (s : State) : (tearPage n s).kr = s.kr := by simp only [tearPage]; simp
@[simp] theorem tearPage_tq (n : Nat) (s : State) : (tearPage n s).tq = s.tq := by simp only [tearPage]; simp
@[simp] theorem tearPage_gq (n : Nat) (s : State) : (tearPage n s).gq = s.gq := by simp only [tearPage]; simp
@[simp] theorem tearPage_dss (n : Nat) (s : State) : (tearPage n s).dss = s.dss := by simp only [tearPage]; simp
@[simp] theorem tearPage_tpi (n : Nat) (s : State) : (tearPage n s).tpi = s.tpi := by simp only [tearPage]; simp
@[simp] theorem tearPage_blr (n : Nat) (s : State) : (tearPage n s).blr = s.blr := by simp only [tearPage]; simp
@[simp] theorem tearPage_dlp (n : Nat) (s : State) : (tearPage n s).dlp = s.dlp := by simp only [tearPage]; simp
@[simp] theorem tearPage_vp (n : Nat) (s : State) : (tearPage n s).vp = s.vp := by simp only [tearPage]; simp
@[simp] theorem tearPage_axl (n : Nat) (s : State) : (tearPage n s).axl = s.axl := by simp only [tearPage]; simp
@[simp] theorem tearPage_clock (n : Nat) (s : State) : (tearPage n s).clock = s.clock := by simp only [tearPage]; simp
@[simp] theorem tearPage_held (n : Nat) (s : State) : (tearPage n s).held = s.held := by simp only [tearPage]; simp
@[simp] theorem tearPage_pins (n : Nat) (s : State) : (tearPage n s).pins = s.pins := by simp only [tearPage]; simp
@[simp] theorem tearPage_pending (n : Nat) (s : State) : (tearPage n s).pending = s.pending := by simp only [tearPage]; simp

@[simp] theorem dockReply_kfs (c : Byte) (st : Status) (bs : List Byte) (s : State) : (dockReply c st bs s).kfs = s.kfs := by simp only [dockReply]; simp
@[simp] theorem dockReply_kq (c : Byte) (st : Status) (bs : List Byte) (s : State) : (dockReply c st bs s).kq = s.kq := by simp only [dockReply]; simp
@[simp] theorem dockReply_crm (c : Byte) (st : Status) (bs : List Byte) (s : State) : (dockReply c st bs s).crm = s.crm := by simp only [dockReply]; simp
@[simp] theorem dockReply_mlu (c : Byte) (st : Status) (bs : List Byte) (s : State) : (dockReply c st bs s).mlu = s.mlu := by simp only [dockReply]; simp
@[simp] theorem dockReply_kr (c : Byte) (st : Status) (bs : List Byte) (s : State) : (dockReply c st bs s).kr = s.kr := by simp only [dockReply]; simp
@[simp] theorem dockReply_tq (c : Byte) (st : Status) (bs : List Byte) (s : State) : (dockReply c st bs s).tq = s.tq := by simp only [dockReply]; simp
@[simp] theorem dockReply_gq (c : Byte) (st : Status) (bs : List Byte) (s : State) : (dockReply c st bs s).gq = s.gq := by simp only [dockReply]; simp
@[simp] theorem dockReply_dss (c : Byte) (st : Status) (bs : List Byte) (s : State) : (dockReply c st bs s).dss = s.dss := by simp only [dockReply]; simp
@[simp] theorem dockReply_tpi (c : Byte) (st : Status) (bs : List Byte) (s : State) : (dockReply c st bs s).tpi = s.tpi := by simp only [dockReply]; simp
@[simp] theorem dockReply_blr (c : Byte) (st : Status) (bs : List Byte) (s : State) : (dockReply c st bs s).blr = s.blr := by simp only [dockReply]; simp
@[simp] theorem dockReply_vp (c : Byte) (st : Status) (bs : List Byte) (s : State) : (dockReply c st bs s).vp = s.vp := by simp only [dockReply]; simp
@[simp] theorem dockReply_axl (c : Byte) (st : Status) (bs : List Byte) (s : State) : (dockReply c st bs s).axl = s.axl := by simp only [dockReply]; simp
@[simp] theorem dockReply_sst (c : Byte) (st : Status) (bs : List Byte) (s : State) : (dockReply c st bs s).sst = s.sst := by simp only [dockReply]; simp
@[simp] theorem dockReply_clock (c : Byte) (st : Status) (bs : List Byte) (s : State) : (dockReply c st bs s).clock = s.clock := by simp only [dockReply]; simp
@[simp] theorem dockReply_held (c : Byte) (st : Status) (bs : List Byte) (s : State) : (dockReply c st bs s).held = s.held := by simp only [dockReply]; simp
@[simp] theorem dockReply_pins (c : Byte) (st : Status) (bs : List Byte) (s : State) : (dockReply c st bs s).pins = s.pins := by simp only [dockReply]; simp
@[simp] theorem dockReply_free (c : Byte) (st : Status) (bs : List Byte) (s : State) : (dockReply c st bs s).free = s.free := by simp only [dockReply]; simp
@[simp] theorem dockReply_pending (c : Byte) (st : Status) (bs : List Byte) (s : State) : (dockReply c st bs s).pending = s.pending := by simp only [dockReply]; simp

@[simp] theorem startReply_kfs (b : Bool) (c : Byte) (st : Status) (bs : List Byte) (s : State) : (startReply b c st bs s).kfs = s.kfs := by simp only [startReply]; simp
@[simp] theorem startReply_kq (b : Bool) (c : Byte) (st : Status) (bs : List Byte) (s : State) : (startReply b c st bs s).kq = s.kq := by simp only [startReply]; simp
@[simp] theorem startReply_crm (b : Bool) (c : Byte) (st : Status) (bs : List Byte) (s : State) : (startReply b c st bs s).crm = s.crm := by simp only [startReply]; simp
@[simp] theorem startReply_mlu (b : Bool) (c : Byte) (st : Status) (bs : List Byte) (s : State) : (startReply b c st bs s).mlu = s.mlu := by simp only [startReply]; simp
@[simp] theorem startReply_kr (b : Bool) (c : Byte) (st : Status) (bs : List Byte) (s : State) : (startReply b c st bs s).kr = s.kr := by simp only [startReply]; simp
@[simp] theorem startReply_tq (b : Bool) (c : Byte) (st : Status) (bs : List Byte) (s : State) : (startReply b c st bs s).tq = s.tq := by simp only [startReply]; simp
@[simp] theorem startReply_gq (b : Bool) (c : Byte) (st : Status) (bs : List Byte) (s : State) : (startReply b c st bs s).gq = s.gq := by simp only [startReply]; simp
@[simp] theorem startReply_dss (b : Bool) (c : Byte) (st : Status) (bs : List Byte) (s : State) : (startReply b c st bs s).dss = s.dss := by simp only [startReply]; simp
@[simp] theorem startReply_tpi (b : Bool) (c : Byte) (st : Status) (bs : List Byte) (s : State) : (startReply b c st bs s).tpi = s.tpi := by simp only [startReply]; simp
@[simp] theorem startReply_blr (b : Bool) (c : Byte) (st : Status) (bs : List Byte) (s : State) : (startReply b c st bs s).blr = s.blr := by simp only [startReply]; simp
@[simp] theorem startReply_dlp (b : Bool) (c : Byte) (st : Status) (bs : List Byte) (s : State) : (startReply b c st bs s).dlp = s.dlp := by simp only [startReply]; simp
@[simp] theorem startReply_axl (b : Bool) (c : Byte) (st : Status) (bs : List Byte) (s : State) : (startReply b c st bs s).axl = s.axl := by simp only [startReply]; simp
@[simp] theorem startReply_sst (b : Bool) (c : Byte) (st : Status) (bs : List Byte) (s : State) : (startReply b c st bs s).sst = s.sst := by simp only [startReply]; simp
@[simp] theorem startReply_clock (b : Bool) (c : Byte) (st : Status) (bs : List Byte) (s : State) : (startReply b c st bs s).clock = s.clock := by simp only [startReply]; simp
@[simp] theorem startReply_held (b : Bool) (c : Byte) (st : Status) (bs : List Byte) (s : State) : (startReply b c st bs s).held = s.held := by simp only [startReply]; simp
@[simp] theorem startReply_pins (b : Bool) (c : Byte) (st : Status) (bs : List Byte) (s : State) : (startReply b c st bs s).pins = s.pins := by simp only [startReply]; simp
@[simp] theorem startReply_free (b : Bool) (c : Byte) (st : Status) (bs : List Byte) (s : State) : (startReply b c st bs s).free = s.free := by simp only [startReply]; simp
@[simp] theorem startReply_pending (b : Bool) (c : Byte) (st : Status) (bs : List Byte) (s : State) : (startReply b c st bs s).pending = s.pending := by simp only [startReply]; simp

end Sys2Proof.Machine
end

