-- ==== Sys2Proof/Laws/Cases.lean ====
section
/-! SUPPORT. What each shared operation can do, said once: a proof cites these cases and does not unfold the operation. -/

namespace Sys2Proof.Machine

/-! ### Events -/

/-- While a dip holds the part, a command on a port or a timer leaves the state as it is (R200). -/
theorem command_held {act : State → State} {s : State} (h : s.held = true) : command act s = .next s := by
  simp [command, event, h]

/-- A part that runs: the slots are loaded, the command acts, the slots are loaded and the pins driven. -/
theorem command_running {act : State → State} {s : State} (h : s.held = false) :
    command act s = .next (drivePins (loadSlots (act (loadSlots s)))) := by
  simp [command, event, h]

/-- A command never stops: it answers a next state. -/
theorem command_next (act : State → State) (s : State) : ∃ t, command act s = .next t := ⟨_, rfl⟩

/-- An expiry acts when its timer runs and is due. -/
theorem whenDue_due {timer : State → Option Timer} {act : State → State} {s : State} {tm : Timer}
    (h : timer s = some tm) (hd : tm.due s.clock = true) : whenDue timer act s = act s := by
  simp [whenDue, dueTimer, h, hd]

/-- An expiry without a running timer, or before its time, does nothing. -/
theorem whenDue_idle {timer : State → Option Timer} {act : State → State} {s : State}
    (h : ∀ tm, timer s = some tm → tm.due s.clock = false) : whenDue timer act s = s := by
  unfold whenDue dueTimer
  cases ht : timer s with
  | none => simp
  | some tm => simp [h tm ht]

/-- An input pin's event while the part is held records the level alone. -/
theorem pinEvent_held {level act : State → State} {s : State} (h : s.held = true) : pinEvent level act s = .next (level s) := by
  simp [pinEvent, h]

/-- An input pin's event while the part runs is a command. -/
theorem pinEvent_running {level act : State → State} {s : State} (h : s.held = false) :
    pinEvent level act s = command act s := by
  simp [pinEvent, h]

/-! ### The transmit slots -/

/-- Loading the report slot: nothing, or the head of the gateway queue into the free slot (R182). -/
theorem loadReportSlot_cases (s : State) :
    (loadReportSlot s = s ∧ (s.vp.reportSlot.isSome = true ∨ s.gq.reports = [] ∨ s.vp.heldOff = true)) ∨
      ∃ r rest, s.vp.reportSlot = none ∧ s.gq.reports = r :: rest ∧ s.vp.heldOff = false ∧
        loadReportSlot s =
          (s.setGq { s.gq with headHeld := true }).setVp { s.vp with reportSlot := some (keyReportFrame s.vp r) } := by
  unfold loadReportSlot
  split
  · rename_i r rest h1 h2
    cases hh : s.vp.heldOff with
    | true => exact .inl (by simp)
    | false => exact .inr ⟨r, rest, h1, h2, rfl, by simp⟩
  · refine .inl ⟨rfl, ?_⟩
    cases h1 : s.vp.reportSlot with
    | some d => exact .inl rfl
    | none =>
      cases h2 : s.gq.reports with
      | nil => exact .inr (.inl rfl)
      | cons r rest => exact absurd h2 (by simp_all)

/-- Loading the control slot: nothing, the next segment of the reply, or a PART_STATUS that is due (R183). -/
theorem loadControlSlot_cases (s : State) :
    (loadControlSlot s = s ∧
        (s.vp.controlSlot.isSome = true ∨ s.vp.heldOff = true ∨ (∃ b, s.vp.reply = some { rest := [], resets := b }) ∨
          (s.vp.reply = none ∧ s.vp.statusDue = false))) ∨
      (∃ seg rest b, s.vp.controlSlot = none ∧ s.vp.heldOff = false ∧ s.vp.reply = some { rest := seg :: rest, resets := b } ∧
        loadControlSlot s =
          s.setVp { s.vp with controlSlot := some (.segment (replyFrame s.vp seg)), reply := some { rest := rest, resets := b } }) ∨
      (s.vp.controlSlot = none ∧ s.vp.heldOff = false ∧ s.vp.reply = none ∧ s.vp.statusDue = true ∧
        loadControlSlot s =
          s.setVp { s.vp with controlSlot := some (.partStatus (partStatusFrame s.vp (partStatusData s))), statusDue := false }) := by
  unfold loadControlSlot
  split
  · rename_i h
    exact .inl ⟨rfl, by rcases Bool.or_eq_true _ _ ▸ h with h | h <;> simp [h]⟩
  · rename_i h
    obtain ⟨hc, hh⟩ : s.vp.controlSlot = none ∧ s.vp.heldOff = false := by simpa using h
    split
    · rename_i r hr
      obtain ⟨rest, b⟩ := r
      cases rest with
      | nil => exact .inl ⟨rfl, .inr (.inr (.inl ⟨b, hr⟩))⟩
      | cons seg rest => exact .inr (.inl ⟨seg, rest, b, hc, hh, hr, rfl⟩)
    · rename_i hr
      cases hd : s.vp.statusDue with
      | true => exact .inr (.inr ⟨hc, hh, hr, rfl, by simp⟩)
      | false => exact .inl ⟨by simp, .inr (.inr (.inr ⟨hr, rfl⟩))⟩

/-- A KEY_REPORT's completion: the slot is free, and the head goes only if the queue handed it over since the last flush (R130, R182). -/
theorem completeReport_cases (s : State) :
    (s.gq.headHeld = true ∧
        completeReport s =
          (s.setVp { s.vp with reportSlot := none }).setGq { (s.gq.removeHead 8) with headHeld := false }) ∨
      (s.gq.headHeld = false ∧ completeReport s = s.setVp { s.vp with reportSlot := none }) := by
  unfold completeReport
  cases s.gq.headHeld <;> simp [Config.gatewayCapacity]

/-! ### Notices -/

/-- A notice for both masters: the two notice words, and the status due flag where the gateway's shown notices become some. -/
theorem raiseBoth_eq (n : Notice) (s : State) :
    raiseBoth n s =
      (s.setDlp { s.dlp with notices := s.dlp.notices ||| noticeWord n }).setVp
        { s.vp with
          notices := s.vp.notices ||| noticeWord n
          statusDue := s.vp.statusDue ||
            (s.vp.notices &&& s.vp.mask == 0 && (s.vp.notices ||| noticeWord n) &&& s.vp.mask != 0) } := rfl

/-! ### The router -/

/-- Choosing the repeat candidate changes the candidate and its timer alone, as R110 says. -/
theorem chooseCandidate_eq (s : State) :
    chooseCandidate s =
      s.setKr
        { s.kr with
          candidate := (newestEligible s).map HeldEntry.seq
          repeatTimer :=
            match newestEligible s with
            | none => none
            | some e => if s.kr.candidate = some e.seq then s.kr.repeatTimer else some (startTimer s s.kr.delay) } := by
  unfold chooseCandidate
  cases h : newestEligible s with
  | none => simp
  | some e =>
    by_cases hc : s.kr.candidate = some e.seq
    · simp only [Option.map_some, if_pos hc]
      rw [← hc]
      rfl
    · simp [hc]

/-- Counting the covered entries: nothing, or the end of a grace without any (R89). -/
theorem countCovered_cases (s : State) :
    (countCovered s = s ∧ (s.mlu.lockout = .engaging → coveredCount s ≠ 0)) ∨
      (s.mlu.lockout = .engaging ∧ coveredCount s = 0 ∧ countCovered s = setLockout .engaged none s) := by
  unfold countCovered
  split
  · exact .inr (by simp_all)
  · exact .inl (by simp_all)

/-- Taking the lockout condition: OPEN engages when it is true, and the others open when it is false (R88, R91). -/
theorem takeCondition_cases (s : State) :
    (takeCondition s = s ∧ (lockoutCondition s = lockoutInEffect s)) ∨
      (lockoutCondition s = true ∧ s.mlu.lockout = .opened ∧ coveredCount s = 0 ∧
        takeCondition s = setLockout .engaged none s) ∨
      (lockoutCondition s = true ∧ s.mlu.lockout = .opened ∧ coveredCount s ≠ 0 ∧
        takeCondition s = setLockout .engaging (some (startTimer s s.mlu.params.grace)) s) ∨
      (lockoutCondition s = false ∧ s.mlu.lockout ≠ .opened ∧ takeCondition s = setLockout .opened none s) := by
  unfold takeCondition
  cases hc : lockoutCondition s <;> cases hl : s.mlu.lockout <;> simp [lockoutInEffect, hl, engage]
  by_cases h0 : coveredCount s = 0 <;> simp [h0]

/-- Deriving the display: nothing where the desired source is the target, and else the start of a switch (R139, R140). -/
theorem deriveDisplay_cases (s : State) :
    (desiredPicture s = s.dss.target ∧ deriveDisplay s = s) ∨
      (desiredPicture s ≠ s.dss.target ∧
        deriveDisplay s = retarget (s.setDss { s.dss with target := desiredPicture s, settle := some (startTimer s 40) })) := by
  unfold deriveDisplay
  by_cases h : desiredPicture s = s.dss.target <;> simp [h]

/-- The target that the model computes is the one that R152 asks for. -/
theorem backlightTarget_eq (s : State) : backlightTarget s = backlightAsked s := by
  simp only [backlightTarget, backlightAsked, ambientFigure, capInForce, nightAsserted, Bool.or_eq_true, beq_iff_eq, or_assoc]

/-- Deriving the display has the backlight follow it, and changes nothing else of it (R140, R152). -/
theorem deriveDisplay_backlight (s : State) : backlightFollows s (deriveDisplay s) := by
  obtain ⟨h, e⟩ | ⟨h, e⟩ := deriveDisplay_cases s
  · simp [backlightFollows, e]
  · simp [backlightFollows, e, retarget, h, backlightTarget_eq]
    rfl

/-- Taking the standby condition moves the standby timer alone (R202). -/
theorem takeStandbyCondition_eq (s : State) :
    takeStandbyCondition s =
      s.setSst
        { s.sst with
          standbyTimer :=
            if s.sst.standby then s.sst.standbyTimer
            else if standbyCondition s then (if s.sst.standbyTimer.isSome then s.sst.standbyTimer else some (startTimer s 60000))
            else none } := by
  unfold takeStandbyCondition
  repeat' split
  all_goals rfl

/-- The part wakes if it is in STANDBY (R204). -/
theorem wake_cases (s : State) :
    (s.sst.standby = false ∧ wake s = s) ∨ (s.sst.standby = true ∧ wake s = exitStandby s) := by
  unfold wake
  cases h : s.sst.standby <;> simp

/-- A report of ignition: in STANDBY, off leaves it and any other value ends it; in RUN the standby condition is taken anew (R202, R204). -/
theorem ignitionReport_cases (s : State) :
    (s.sst.standby = true ∧ s.mlu.signals.ignition = some false ∧ ignitionReport s = s) ∨
      (s.sst.standby = true ∧ s.mlu.signals.ignition ≠ some false ∧ ignitionReport s = exitStandby s) ∨
      (s.sst.standby = false ∧ ignitionReport s = takeStandbyCondition s) := by
  unfold ignitionReport ignitionOff
  cases hs : s.sst.standby
  · exact .inr (.inr ⟨rfl, by simp⟩)
  · by_cases hi : s.mlu.signals.ignition = some false
    · exact .inl ⟨rfl, hi, by simp [hi]⟩
    · exact .inr (.inl ⟨rfl, hi, by simp [hi]⟩)

/-- A press-type event: an entry where the table has room, and a rollover where it is full (R99, R101). -/
theorem takePress_cases (p : Press) (s : State) :
    (s.kr.table.length < 12 ∧ takePress p s = admitPress p s) ∨
      (12 ≤ s.kr.table.length ∧ takePress p s = rollover (offerSet s p.cls) s) := by
  unfold takePress Config.tableSize
  by_cases h : s.kr.table.length < 12
  · simp [h]
  · simp [h]; omega

/-- A release-kind event of a source that holds no entry does nothing (R104). -/
theorem takeRelease_none {src : Source} {s : State} (forced : Option Reason) (xy : Nat × Nat)
    (h : s.kr.table.find? (fun e => e.source == src) = none) : takeRelease src forced xy s = s := by
  simp [takeRelease, h]

/-- A release-kind event of a source that holds an entry (R104, R105, R89). -/
theorem takeRelease_some {src : Source} {s : State} {e : HeldEntry} (forced : Option Reason) (xy : Nat × Nat)
    (h : s.kr.table.find? (fun e => e.source == src) = some e) :
    takeRelease src forced xy s =
      (let r := releaseReport s forced xy e
      let s1 := offerReleaseIf e.owners.gateway .gateway r (offerReleaseIf e.owners.tablet .tablet r s)
      let s2 := chooseCandidate (s1.setKr { s1.kr with table := s1.kr.table.eraseP (fun e => e.source == src) })
      if e.owners.tablet then countCovered s2 else s2) := by
  simp [takeRelease, h]

/-! ### The queues -/

/-- A press-type report is admitted, with a reservation, or refused, with draining and a refusal counted (R122, R126). -/
theorem offerPress_cases (q : Queue) (capacity : Nat) (r : Report) :
    (q.draining = false ∧ q.reports.length + q.reserved + 2 ≤ capacity ∧
        q.offerPress capacity r =
          ({ q with reports := q.reports ++ [{ r with gap := q.gap }], gap := false, reserved := q.reserved + 1 }, true)) ∨
      ((q.draining = true ∨ capacity < q.reports.length + q.reserved + 2) ∧
        q.offerPress capacity r = ({ q with draining := true, refusals := bump q.refusals }, false)) := by
  unfold Queue.offerPress Queue.room
  split
  · rename_i h
    exact .inl (by simp at h; exact ⟨h.1, h.2, rfl⟩)
  · rename_i h
    refine .inr ⟨?_, rfl⟩
    cases hd : q.draining
    · simp [hd] at h; exact .inr h
    · exact .inl rfl

/-- Removing the head leaves the rest, and ends draining at half the capacity or below, with the gap mark due (R128). -/
theorem removeHead_eq (q : Queue) (half : Nat) :
    q.removeHead half =
      (let ends := q.draining && q.reports.tail.length ≤ half
       { q with reports := q.reports.tail, draining := q.draining && !ends, gap := q.gap || ends }) := by
  unfold Queue.removeHead
  cases hd : q.draining <;> simp
  by_cases h : q.reports.length ≤ half + 1 <;> simp [h]

/-! ### Commands of the ports -/

/-- A dock command whose frame is the oldest leaves the buffer and acts (R166, R167). -/
theorem takeFrame_taken {code : Byte} {args : List Byte} {rest : List Frame} {act : State → State} {s : State}
    (h : s.dlp.frames = { type := code, payload := args } :: rest) :
    takeFrame code args act s = act (s.setDlp { s.dlp with frames := rest }) := by
  simp [takeFrame, h]

/-- A dock command whose frame is not the oldest does nothing (log entry 4). -/
theorem takeFrame_other {code : Byte} {args : List Byte} {act : State → State} {s : State}
    (h : s.dlp.frames.head? ≠ some { type := code, payload := args }) : takeFrame code args act s = s := by
  simp [takeFrame, h]

/-- What the vehicle port does first with any gateway frame received (R177). -/
def heard (s : State) : State :=
  s.setVp
    { s.vp with
      online := true, statusDue := s.vp.statusDue || !s.vp.online, silence := some (startTimer s 1000) }

/-- No frame is both a VEHICLE_STATE and a GATEWAY_COMMAND: their identifiers differ (R176). -/
theorem takesFrame_one {v : Vp} {h : CanHeader} (h1 : takesFrame v 1 h = true) : takesFrame v 0 h = false := by
  simp only [takesFrame, Bool.and_eq_true, Bool.not_eq_true', beq_iff_eq] at h1
  simp [takesFrame, h1]

/-- A frame on the bus: in HELD_OFF, or without one of the two identifiers, it does nothing; at base + 0 it is heard and handed on as a
VEHICLE_STATE; at base + 1 it is heard, and its command dropped while a reply is in progress and taken otherwise (R177, R184). -/
theorem receiveFrame_cases (h : CanHeader) (data : List Byte) (act : State → State) (s : State) :
    (((takesFrame s.vp 0 h = false ∧ takesFrame s.vp 1 h = false) ∨ s.vp.heldOff = true) ∧ receiveFrame h data act s = s) ∨
      (takesFrame s.vp 0 h = true ∧ s.vp.heldOff = false ∧ receiveFrame h data act s = handVehicleState data (heard s)) ∨
      (takesFrame s.vp 1 h = true ∧ s.vp.heldOff = false ∧ s.vp.reply.isSome = true ∧
        receiveFrame h data act s = dropCommand (heard s)) ∨
      (takesFrame s.vp 1 h = true ∧ s.vp.heldOff = false ∧ s.vp.reply = none ∧ receiveFrame h data act s = act (heard s)) := by
  unfold receiveFrame gatewayFrame handCommand
  cases hh : s.vp.heldOff with
  | true => exact .inl ⟨.inr rfl, by simp⟩
  | false =>
    cases h0 : takesFrame s.vp 0 h with
    | true => exact .inr (.inl ⟨rfl, rfl, by simp [heard]⟩)
    | false =>
      cases h1 : takesFrame s.vp 1 h with
      | false => exact .inl ⟨.inl ⟨rfl, rfl⟩, by simp⟩
      | true =>
        cases hr : s.vp.reply with
        | none => exact .inr (.inr (.inr ⟨rfl, rfl, rfl, by simp [heard, hr]⟩))
        | some r => exact .inr (.inr (.inl ⟨rfl, rfl, rfl, by simp [heard, hr]⟩))

/-- The frame that a receiver takes is the one that the statements call addressed (R176, R177). -/
theorem takesFrame_iff_addressed (offset : Nat) (h : CanHeader) (s : State) :
    takesFrame s.vp offset h = true ↔ addressed offset h s := by
  simp [takesFrame, addressed, and_assoc]

/-- The frame that the port makes is the one that the statements call sent (R176, R210). -/
theorem sentFrame_eq_sent (s : State) (offset : Nat) (format : CanFormat) (data : List Byte) :
    sentFrame s.vp offset format data = sent s offset format data := rfl

/-- The command that a data field spells: none, one of the gateway's, or a code that names none (R184). -/
theorem spelledCommand_cases (data : List Byte) (s : State) :
    (data = [] ∧ spelledCommand data s = dropCommand s) ∨
      (∃ code args act, data = code :: args ∧ gatewayActs.lookup code = some act ∧ spelledCommand data s = act args s) ∨
      (∃ code args, data = code :: args ∧ gatewayActs.lookup code = none ∧
        spelledCommand data s = startReply false code .unknown [] s) := by
  cases data with
  | nil => exact .inl ⟨rfl, rfl⟩
  | cons code args =>
    cases hl : gatewayActs.lookup code with
    | some act => exact .inr (.inl ⟨code, args, act, rfl, hl, by simp [spelledCommand, hl]⟩)
    | none => exact .inr (.inr ⟨code, args, rfl, hl, by simp [spelledCommand, hl]⟩)

/-- A tablet command on the dock link is taken, and on the vehicle port it is UNKNOWN (R184). -/
theorem tabletCommand_ports (h : CanHeader) (code : Byte) (len : Nat) (args : List Byte) (act : State → Answer) :
    tabletCommand .dockLink code len args act = dockCommand code len args act ∧
      tabletCommand (.vehiclePort h) code len args act = vehicleRefusal h .unknown code args := ⟨rfl, rfl⟩

/-- A gateway command is DENIED on the dock link, and taken on the vehicle port (R58, R167). -/
theorem gatewayOnlyCommand_ports (h : CanHeader) (code : Byte) (len : Nat) (args : List Byte) (act : State → Answer) :
    gatewayOnlyCommand .dockLink code len args act = dockRefusal .denied code args ∧
      gatewayOnlyCommand (.vehiclePort h) code len args act = vehicleCommand h code len args act := ⟨rfl, rfl⟩

/-! ### The dock link's receiver -/

/-- A byte ends the quiet before it, and a gap discards and counts the frame in assembly (R165). -/
theorem endQuiet_cases (afterGap : Bool) (s : State) :
    (gapped afterGap s.dlp.quiet = true ∧ s.dlp.assembly.isSome = true ∧
        endQuiet afterGap s = s.setDlp { s.dlp with assembly := none, quiet := 0, gapErrors := bump s.dlp.gapErrors }) ∨
      ((gapped afterGap s.dlp.quiet = false ∨ s.dlp.assembly = none) ∧
        endQuiet afterGap s = s.setDlp { s.dlp with quiet := 0 }) := by
  unfold endQuiet
  cases hg : gapped afterGap s.dlp.quiet
  · exact .inr ⟨.inl rfl, by simp⟩
  · cases ha : s.dlp.assembly with
    | none => exact .inr ⟨.inr rfl, by simp⟩
    | some bytes => exact .inl ⟨rfl, rfl, by simp⟩

/-- A byte on the receive line: nothing where the receiver does not work; an overrun in a full buffer; else it is taken (R165, R166). -/
theorem receiveByte_cases (b : Byte) (afterGap : Bool) (s : State) :
    (receiving s = false ∧ receiveByte b afterGap s = s) ∨
      (receiving s = true ∧ 256 ≤ bytesHeld (endQuiet afterGap s).dlp ∧
        receiveByte b afterGap s = dropByte (endQuiet afterGap s)) ∨
      (receiving s = true ∧ bytesHeld (endQuiet afterGap s).dlp < 256 ∧
        receiveByte b afterGap s = takeByte b (endQuiet afterGap s)) := by
  unfold receiveByte Config.receiveBytes
  cases hr : receiving s
  · exact .inl ⟨rfl, by simp⟩
  · by_cases hb : bytesHeld (endQuiet afterGap s).dlp ≥ 256
    · exact .inr (.inl ⟨rfl, hb, by simp [hb]⟩)
    · exact .inr (.inr ⟨rfl, Nat.lt_of_not_le hb, by simp [hb]⟩)

/-! ### The settings store -/

/-- A cut save leaves the state but for the image and the count of free bytes (R198). -/
theorem cutSave_idle {s : State} (h : s.sst.save = none) : cutSave s = s := by simp [cutSave, h]

/-- With a save in progress, the page being written is torn (R198). -/
theorem cutSave_saving {s : State} {w : Save} (h : s.sst.save = some w) : cutSave s = tearPage (writePage w.write) s := by
  simp [cutSave, h]

/-- The load of an image without a valid header (R193). -/
theorem loadImage_invalid {m : Memory} (h : imageValid m = false) :
    loadImage m = { settings := factorySettings, replaced := true, defaultsInUse := true } := by
  simp [loadImage, h]

/-- The load of an image with a valid header (R193). -/
theorem loadImage_valid {m : Memory} (h : imageValid m = true) : loadImage m = loadPages m := by simp [loadImage, h]

end Sys2Proof.Machine
end

