-- ==== Sys2Proof/Laws/Memory.lean ====
section
/-! SUPPORT. The settings memory: what a write does to a read, and that every operation over the image keeps its canonical form. -/

namespace Sys2Proof.Machine

/-- A sorted memory is sorted from any lower bound. -/
theorem memSorted_mono {m : Memory} {low low' : Nat} (h : low' ≤ low) (hs : memSorted low m = true) : memSorted low' m = true := by
  cases m with
  | nil => rfl
  | cons c rest =>
    simp only [memSorted, Bool.and_eq_true, decide_eq_true_eq] at hs ⊢
    exact ⟨⟨by omega, hs.1.2⟩, hs.2⟩

/-- Below its lower bound a sorted memory reads as 00h. -/
theorem memRead_below {m : Memory} {low x : Nat} (h : x < low) (hs : memSorted low m = true) : memRead m x = 0#8 := by
  induction m generalizing low with
  | nil => rfl
  | cons c rest ih =>
    simp only [memSorted, Bool.and_eq_true, decide_eq_true_eq] at hs
    simp only [memRead]
    rw [if_neg (by omega)]
    exact ih (low := c.1 + 1) (by omega) hs.2

/-- A write at or above the lower bound keeps the memory sorted. -/
theorem memWrite_sorted {m : Memory} {low x : Nat} {v : Byte} (h : low ≤ x) (hs : memSorted low m = true) :
    memSorted low (memWrite m x v) = true := by
  induction m generalizing low with
  | nil =>
    simp only [memWrite]
    split
    · rfl
    · simp only [memSorted, Bool.and_eq_true, decide_eq_true_eq, bne_iff_ne, ne_eq]
      exact ⟨⟨h, ‹_›⟩, trivial⟩
  | cons c rest ih =>
    simp only [memSorted, Bool.and_eq_true, decide_eq_true_eq, bne_iff_ne, ne_eq] at hs
    simp only [memWrite]
    split
    · split
      · simp only [memSorted, Bool.and_eq_true, decide_eq_true_eq, bne_iff_ne, ne_eq]
        exact hs
      · simp only [memSorted, Bool.and_eq_true, decide_eq_true_eq, bne_iff_ne, ne_eq]
        exact ⟨⟨h, ‹_›⟩, ⟨by omega, hs.1.2⟩, hs.2⟩
    · split
      · split
        · exact memSorted_mono (by omega) hs.2
        · simp only [memSorted, Bool.and_eq_true, decide_eq_true_eq, bne_iff_ne, ne_eq]
          exact ⟨⟨h, ‹_›⟩, memSorted_mono (by omega) hs.2⟩
      · simp only [memSorted, Bool.and_eq_true, decide_eq_true_eq, bne_iff_ne, ne_eq]
        exact ⟨hs.1, ih (by omega) hs.2⟩

/-- A write adds no address but its own. -/
theorem mem_memWrite {m : Memory} {x : Nat} {v : Byte} {c : Host.Cell} (h : c ∈ memWrite m x v) : c = (x, v) ∨ c ∈ m := by
  induction m with
  | nil =>
    simp only [memWrite] at h
    split at h <;> simp_all
  | cons d rest ih =>
    simp only [memWrite] at h
    split at h
    · split at h
      · exact .inr h
      · exact (List.mem_cons.mp h).imp id id
    · split at h
      · split at h
        · exact .inr (List.mem_cons_of_mem _ h)
        · exact (List.mem_cons.mp h).imp id (List.mem_cons_of_mem _)
      · rcases List.mem_cons.mp h with h | h
        · exact .inr (h ▸ List.mem_cons_self)
        · exact (ih h).imp id (List.mem_cons_of_mem _)

/-- A write inside the image keeps every address inside it. -/
theorem memWrite_inside {m : Memory} {x : Nat} {v : Byte} (h : x < 1024) (hm : m.all (fun c => c.1 < 1024) = true) :
    (memWrite m x v).all (fun c => c.1 < 1024) = true := by
  rw [List.all_eq_true] at hm ⊢
  intro c hc
  rcases mem_memWrite hc with rfl | hc
  · exact decide_eq_true h
  · exact hm c hc

/-- A write inside the image keeps the canonical form. -/
theorem memWrite_wf {m : Memory} {x : Nat} {v : Byte} (h : x < 1024) (hm : Memory.wf m = true) : Memory.wf (memWrite m x v) = true := by
  simp only [Memory.wf, Bool.and_eq_true] at hm ⊢
  exact ⟨memWrite_sorted (Nat.zero_le x) hm.1, memWrite_inside h hm.2⟩

/-- A read of the byte just written. -/
theorem memRead_memWrite_same {m : Memory} {low x : Nat} {v : Byte} (hs : memSorted low m = true) : memRead (memWrite m x v) x = v := by
  induction m generalizing low with
  | nil =>
    simp only [memWrite]
    split <;> simp_all [memRead]
  | cons c rest ih =>
    simp only [memSorted, Bool.and_eq_true, decide_eq_true_eq] at hs
    simp only [memWrite]
    split
    · split
      · rename_i hv
        simp only [memRead]
        rw [if_neg (by omega), hv]
        exact memRead_below (low := c.1 + 1) (by omega) hs.2
      · simp [memRead]
    · split
      · split
        · rename_i hx hv
          rw [hv]
          exact memRead_below (low := c.1 + 1) (by omega) hs.2
        · simp [memRead]
      · simp only [memRead]
        rw [if_neg ‹_›]
        exact ih hs.2

/-- A read of any other byte. -/
theorem memRead_memWrite_other {m : Memory} {x y : Nat} {v : Byte} (h : y ≠ x) : memRead (memWrite m x v) y = memRead m y := by
  induction m with
  | nil =>
    simp only [memWrite]
    split <;> simp [memRead, h]
  | cons c rest ih =>
    simp only [memWrite]
    split
    · split <;> simp [memRead, h]
    · split
      · rename_i hx
        split <;> simp [memRead, h, ← hx]
      · simp only [memRead, ih]

/-- Bytes written one after another inside the image keep the canonical form. -/
theorem memWriteBytes_wf {bs : List Byte} {m : Memory} {a : Nat} (h : a + bs.length ≤ 1024) (hm : Memory.wf m = true) :
    Memory.wf (memWriteBytes m a bs) = true := by
  induction bs generalizing m a with
  | nil => exact hm
  | cons b bs ih =>
    simp only [List.length_cons] at h
    exact ih (by omega) (memWrite_wf (by omega) hm)

/-- Bytes written one after another leave every other byte. -/
theorem memRead_memWriteBytes_other {bs : List Byte} {m : Memory} {a y : Nat} (h : y < a ∨ a + bs.length ≤ y) :
    memRead (memWriteBytes m a bs) y = memRead m y := by
  induction bs generalizing m a with
  | nil => rfl
  | cons b bs ih =>
    simp only [List.length_cons] at h
    rw [memWriteBytes, ih (by omega), memRead_memWrite_other (by omega)]

/-- A page has 64 bytes. -/
theorem pageBytes_length (fields : List Byte) : (pageBytes fields).length = 64 := by
  simp only [pageBytes, padTo, List.length_append, List.length_take, List.length_replicate, List.length_cons, List.length_nil]
  omega

/-- A page whose write was cut off has 64 bytes. -/
theorem tornPage_length (free : Nat) : (tornPage free).length = 64 := by
  simp [tornPage, tornContent]

/-- A page written whole keeps the canonical form. -/
theorem writeWholePage_wf {m : Memory} {page : Nat} {fields : List Byte} (h : page ≤ 15) (hm : Memory.wf m = true) :
    Memory.wf (writeWholePage page fields m) = true :=
  memWriteBytes_wf (by rw [pageBytes_length]; omega) hm

/-- A page left unsound keeps the canonical form. -/
theorem tearPage_wf {s : State} {page : Nat} (h : page ≤ 15) (hm : Memory.wf s.sst.image = true) :
    Memory.wf (tearPage page s).sst.image = true := by
  simp only [tearPage, State.setFree_sst, State.setSst_sst]
  exact memWriteBytes_wf (by rw [tornPage_length]; omega) hm

/-- The image of the state after reset has the canonical form. -/
theorem reset_image_wf : Memory.wf State.reset.sst.image = true := rfl

end Sys2Proof.Machine
end

