-- ==== Sys2Proof/Tests/Slice0.lean ====
section
/-! SUPPORT. The model's own tests: the terms that `Instr.wellFormed` refuses, the worked figures and tables of the spec, one step of
each command on a small state, and a state and operands that meet the premises of every statement that has some. -/

-- Each theorem is checked before the next one is read: checked all at once they would need one thread's stack each.
set_option Elab.async false

namespace Sys2Proof.Tests

open Sys2Proof Sys2Proof.Machine

/-! ### Small states, built on the reset state -/

/-- The state after a full reset. -/
def base : State := State.reset

/-- A timer that ran out at this very millisecond, at the count 0 of the reset state. -/
def ranOut (span : Nat) : Timer := { start := 65536 - span, span := span }

/-- The command is the oldest frame of the receive buffer. -/
def asks (code : Byte) (args : List Byte) (s : State) : State :=
  s.setDlp { s.dlp with frames := { type := code, payload := args } :: s.dlp.frames }

/-- The van stands PARKED. -/
def parked (s : State) : State := s.setMlu { s.mlu with motion := .parked }

/-- The configuration lock is set. -/
def locked (s : State) : State := s.setSst { s.sst with configLock := true }

/-- The dock link is in this state. -/
def linkIs (l : Link) (s : State) : State := s.setDlp { s.dlp with link := l }

/-- The gateway is ONLINE. -/
def online (s : State) : State := s.setVp { s.vp with online := true, silence := some (ranOut 1000) }

/-- The lockout is in this state, with its grace timer running out now. -/
def lockIs (l : Lockout) (s : State) : State :=
  s.setMlu { s.mlu with lockout := l, conditionTaken := true, graceTimer := if l = .engaging then some (ranOut 2000) else none }

/-- The header of the gateway's frame `offset` from the default base, 5C0h: 11 bits, a data frame in the flexible data-rate format. -/
def gatewayHeader (offset : Nat) : CanHeader := { id := 0x5C0 + offset, extended := false, remote := false, flexible := true }

/-- The gateway's commands arrive in frames with this header. -/
def bus : Port := .vehiclePort (gatewayHeader 1)

/-- A VEHICLE_STATE with these data. -/
def vehicleFrame (data : List Byte) : CanFrame := { header := gatewayHeader 0, data := data }

/-- A frame that the part sends at the default rate. -/
def sentAt (offset : Nat) (format : CanFormat) (data : List Byte) : BusFrame :=
  { id := 0x5C0 + offset, format := format, rate := .r500, data := data }

/-- A reply of the gateway's is in progress. -/
def replying (segments : List (List Byte)) (resets : Bool) (s : State) : State :=
  s.setVp { s.vp with controlSlot := some (.segment (sentAt 2 .flexible [])), reply := some { rest := segments, resets := resets } }

/-- Site 7 is held down since the count 0 and has an entry, number 1, owned as said. -/
def holds (cls : Nat) (owners : Owners) (s : State) : State :=
  let e : HeldEntry := { source := .site 7, code := 7, cls := cls, seq := 1, owners := owners, pressTime := 0 }
  let q := (siteQual s 7)
  setSiteQual 7 { q with state := .pressed, pressTime := some 0 } (s.setKr { s.kr with table := s.kr.table ++ [e], seq := 1 })

/-- The touch panel has a contact, whose entry has the number 2 and the tablet as its owner. -/
def touches (s : State) : State :=
  let e : HeldEntry :=
    { source := .touch, code := 0, cls := 15, seq := 2, owners := { tablet := true, gateway := false }, pressTime := 0 }
  (s.setTpi { s.tpi with contact := .down, last := some (100, 200) }).setKr { s.kr with table := s.kr.table ++ [e], seq := 2 }

/-- A read of the touch controller is in progress. -/
def reads (s : State) : State := s.setTpi { s.tpi with reading := true }

/-- A scan is in progress that measures every enabled site of the reset state. -/
def scans (s : State) : State := s.setKfs { s.kfs with measured := some (List.range 84) }

/-- A save has begun its write `n`, whose time has run out. -/
def saves (n : Nat) (s : State) : State :=
  s.setSst { s.sst with save := some { copy := workingSettings s, write := n, timer := ranOut 5 } }

/-- A press report of class 0 with this number. -/
def press (n : Nat) : Report :=
  { kind := .press, seq := n, time := 0, gap := false, body := .key 7 0, reason := none }

/-- Both queues hold one report, with one place reserved for its release. -/
def queued (s : State) : State :=
  (s.setTq { s.tq with reports := [press 1], reserved := 1 }).setGq { s.gq with reports := [press 1], reserved := 1, headHeld := true }

/-- Only the tablet owns. -/
def tabletOwns : Owners := { tablet := true, gateway := false }

/-- Both masters own. -/
def bothOwn : Owners := { tablet := true, gateway := true }

/-- Every electrode and the guard read this count. -/
def flat (n : Count) : List Count := List.replicate 96 n

/-- The status code of the reply on the transmit line after a command. -/
def dockStatus : Host.Outcome State Fault Refusal → Option Byte
  | .next t => t.dlp.reply.bind fun bs => bs[3]?
  | _ => none

/-- The status code in the first segment, in the control slot, after a gateway command. -/
def busStatus : Host.Outcome State Fault Refusal → Option Byte
  | .next t => match t.vp.controlSlot with
    | some (.segment f) => f.data[3]?
    | _ => none
  | _ => none

/-- The status code that the tablet's command with these arguments is answered with. -/
def dockSays (c : Port → List Byte → Instr) (code : Byte) (args : List Byte) (s : State) : Option Byte :=
  dockStatus (exec (c .dockLink args) (asks code args s))

/-- The status code that the gateway's command with these arguments is answered with. -/
def busSays (c : Port → List Byte → Instr) (args : List Byte) (s : State) : Option Byte :=
  busStatus (exec (c bus args) (s.setVp { s.vp with statusDue := false }))

/-- The outcome is a next state in which the property holds. -/
def leads (o : Host.Outcome State Fault Refusal) (p : State → Bool) : Bool :=
  match o with
  | .next t => p t
  | _ => false

/-! ### Terms that no command of the part is -/

theorem test_wellFormed_scan_needs_96_counts :
    (Instr.scanCompletion 0 (List.replicate 95 0)).wellFormed = false ∧ (Instr.scanCompletion 0 (flat 0)).wellFormed = true := by
  decide +kernel

theorem test_wellFormed_vehicle_state_fits_a_frame :
    (Instr.vehicleState (vehicleFrame (List.replicate 65 0#8))).wellFormed = false ∧
      (Instr.vehicleState (vehicleFrame (List.replicate 64 0#8))).wellFormed = true ∧
      (Instr.vehicleState { header := { gatewayHeader 0 with flexible := false }, data := List.replicate 9 0#8 }).wellFormed = false ∧
      (Instr.vehicleState { header := { gatewayHeader 0 with flexible := false }, data := List.replicate 8 0#8 }).wellFormed = true := by
  decide +kernel

theorem test_wellFormed_identifier_fits_its_length :
    (Instr.vehicleState { header := { gatewayHeader 0 with id := 0x800 }, data := [] }).wellFormed = false ∧
      (Instr.vehicleState { header := { gatewayHeader 0 with id := 0x7FF }, data := [] }).wellFormed = true ∧
      (Instr.vehicleState { header := { gatewayHeader 0 with id := 0x800, extended := true }, data := [] }).wellFormed = true := by
  decide +kernel

theorem test_wellFormed_dock_frame_fits_its_length :
    (Instr.dockFrameReceived 1#8 (List.replicate 129 0#8)).wellFormed = false ∧
      (Instr.dockFrameReceived 1#8 (List.replicate 128 0#8)).wellFormed = true := by decide +kernel

theorem test_wellFormed_unknown_command_has_no_name :
    (Instr.unknownCommand .dockLink 0x46#8 []).wellFormed = false ∧ (Instr.unknownCommand .dockLink 0x1D#8 []).wellFormed = true ∧
      (Instr.unknownCommand bus 0x46#8 []).wellFormed = false ∧ (Instr.unknownCommand bus 0x01#8 []).wellFormed = true := by
  decide +kernel

theorem test_wellFormed_arguments_fit_the_port :
    (Instr.getStatus .dockLink (List.replicate 129 0#8)).wellFormed = false ∧
      (Instr.getStatus .dockLink (List.replicate 128 0#8)).wellFormed = true ∧
      (Instr.route bus (List.replicate 64 0#8)).wellFormed = false ∧
      (Instr.route bus (List.replicate 63 0#8)).wellFormed = true := by decide +kernel

/-! ### Worked figures of the spec -/

/-- The table of 2.12.2 and the corrected counts of 2.12.1. -/
theorem test_correctedCount_worked_cases :
    correctedCount 40 (-60) 0 = 0 ∧ correctedCount 60 (-60) 2047 = 0 ∧ correctedCount 4000 300 2047 = 4095 ∧
      correctedCount 2500 0 1024 = 2500 ∧ correctedCount 3001 0 0 = 1500 ∧ correctedCount 1800 (-40) 1100 = 1825 ∧
      correctedCount 1870 (-40) 1100 = 1897 ∧ correctedCount 1805 (-40) 1100 = 1830 := by decide +kernel

/-- The steps of 2.12.2 and the runs of 2.12.3. -/
theorem test_baseline_worked_cases :
    trackStep 6 28800 1825 = 28806 ∧ trackStep 6 28800 1775 = 28794 ∧
      baselineUpdate 6 false 30 28806 3 1830 30 = (28806, 0) ∧ baselineUpdate 6 false 30 30400 0 1825 (-75) = (30400, 1) ∧
      baselineUpdate 6 false 30 30400 3 1825 (-75) = (29200, 0) := by decide +kernel

/-- The table of R146. -/
theorem test_scaleAxis_worked_cases :
    scaleAxis 2050 200 3900 = 2047 ∧ scaleAxis 100 200 3900 = 0 ∧ scaleAxis 4000 200 3900 = 4095 := by decide +kernel

/-- The figures of 7.5.2. -/
theorem test_backlight_worked_cases :
    ambientFigure 1650 = 119 ∧ ambientFigure 1000 = 78 ∧ ambientFigure 400 = 41 ∧ 119 * 160 / 128 = 148 ∧
      rampStep 148 97 = 144 ∧ rampStep 52 51 = 51 ∧ rampStep 48 51 = 51 ∧ rampStep 40 51 = 44 := by decide +kernel

/-- The command frames written out in R206. -/
theorem test_dock_frames_of_the_spec :
    dockFrameBytes 0x03#8 [] = [0xA5#8, 0x00#8, 0x03#8, 0x09#8] ∧
      dockFrameBytes 0x01#8 [0x02#8] = [0xA5#8, 0x01#8, 0x01#8, 0x02#8, 0x70#8] := by decide +kernel

/-- The segments of R210: 37 and 38 bytes take five. -/
theorem test_reply_segments_of_the_spec :
    (replySegments 0x49#8 .ok (List.replicate 38 0#8)).length = 5 ∧ (replySegments 0x49#8 .ok (List.replicate 37 0#8)).length = 5 ∧
      (replySegments 0x49#8 .ok (List.replicate 8 0#8)).length = 1 ∧ (replySegments 0x49#8 .ok (List.replicate 9 0#8)).length = 2 := by
  decide +kernel

/-- The two examples of R86: PARKED at 60 with Son lowered to 60, and a released brake that becomes required. -/
theorem test_motion_examples_of_the_spec :
    motionResult .parked { noSignals with speed := some 60 } { defaultParams with son := 60 } = .moving ∧
      motionResult .parked { noSignals with speed := some 0, brake := some false } { defaultParams with brakeRequired := true } =
        .moving := by decide +kernel

/-- The lengths of R209, of the records as the reset state has them. -/
theorem test_record_lengths_of_the_spec :
    (statusGeneral base).length = 25 ∧ (statusRoutes base).length = 33 ∧ (statusHeld base).length = 8 ∧
      (statusVehicle base).length = 21 ∧ (statusDisplay base).length = 25 ∧ (requestGeneral base).length = 37 ∧
      (requestVehicle base).length = 33 ∧ (requestDisplayRecord base).length = 19 ∧ (counterRecord base).length = 38 := by
  decide +kernel

/-- The press and release of 2.12.1, row by row at the thresholds. -/
theorem test_key_rows_at_their_boundaries :
    let r := defaultSite 30
    let q := { resetQual r with base := 28800, reseed := false }
    let u := fun (st : SiteState) (run : Nat) (d : Int) =>
      let x := stateUpdate defaultQualify 9 false r { q with state := st, debounce := run } d 60
      (x.1.state, x.1.debounce, x.2)
    u .idle 0 59 = (.idle, 0, none) ∧ u .idle 0 60 = (.candidate, 1, none) ∧ u .candidate 1 59 = (.idle, 0, none) ∧
      u .candidate 1 60 = (.pressed, 0, some .press) ∧ u .pressed 0 40 = (.pressed, 0, none) ∧
      u .pressed 0 39 = (.releasing, 1, none) ∧ u .releasing 1 40 = (.pressed, 0, none) ∧
      u .releasing 1 39 = (.idle, 0, some .release) := by decide +kernel

/-! ### One step of each command -/

/-- R2: the counter wraps at 65,536. -/
theorem test_tick_wraps :
    leads (exec .timebaseTick { base with clock := 65535 }) (fun t => t.clock == 0) = true ∧
      leads (exec .timebaseTick base) (fun t => t.clock == 1) = true := by decide +kernel

/-- R200, R201, R208: the causes, the hold of a dip, and SETTLING at once with TPRES asserted. -/
theorem test_supply :
    leads (exec .powerOn base) (fun t => t.sst.cause == .powerOn && t.dlp.link == .absent) = true ∧
      leads (exec .supplyDip base) (fun t => t.held && t.sst.cause == .supplyDip) = true ∧
      leads (exec .supplyRestored ((base.setHeld true).setDlp { base.dlp with tpres := true }))
        (fun t => !t.held && t.dlp.link == .settling && t.vp.notices == 0x0401#16) = true := by decide +kernel

/-- R11: the 84 sites enabled by default are measured, and the next start is 12 ms on. -/
theorem test_scanStart_takes_the_enabled_sites :
    leads (exec .scanStart base) (fun t => t.kfs.measured == some (List.range 84) && t.kfs.nextStart == { start := 0, span := 12 }) = true := by
  decide +kernel

/-- R31, R40, R93: the first completion seeds the baselines and takes the lockout condition, which is true while the motion is UNKNOWN. -/
theorem test_scanCompletion_seeds_the_baselines :
    leads (exec (.scanCompletion 1500 (flat 1800)) (scans base)) (fun t =>
      (siteQual t 30).base == 28800 && (siteQual t 84).base == 0 && t.kq.guard.base == 24000 && t.mlu.lockout == .engaged &&
        t.kfs.measured == none) = true := by decide +kernel

/-- A part whose sites are seeded at 1,800 counts, its lockout OPEN, with the link UP. -/
def seeded (s : State) : State :=
  linkIs .up
    (parked
      (lockIs .opened
        (s.setKq
          { s.kq with
            quals := s.kq.quals.map fun q => { q with base := 28800, reseed := false }
            guard := { s.kq.guard with base := 24000, reseed := false } })))

/-- The readings of a completion: site 7 at `n`, all others and the guard as seeded. -/
def touchSeven (n : Count) : List Count := (flat 1800).set 7 n

/-- R34, R100: the second would-be press in a row is a PRESS, and the tablet's queue holds it; R28 at the first of five in a row. -/
theorem test_scanCompletion_raises_a_press :
    leads (exec (.scanCompletion 1500 (touchSeven 1900)) (scans (setSiteQual 7
        { siteQual (seeded base) 7 with state := .candidate, debounce := 1 } (seeded base)))) (fun t =>
      (siteQual t 7).state == .pressed && t.tq.reports == [press 1] && t.tq.reserved == 1 && t.kr.table.length == 1) = true := by
  decide +kernel

/-- R33: five would-be presses reject the completion, and four do not. -/
theorem test_scanCompletion_rejects_common_mode :
    leads (exec (.scanCompletion 1500 (List.replicate 5 1900 ++ List.replicate 91 1800)) (scans (seeded base)))
        (fun t => t.kq.rejectedScans == 1 && (siteQual t 0).state == .idle) = true ∧
      leads (exec (.scanCompletion 1500 (List.replicate 4 1900 ++ List.replicate 92 1800)) (scans (seeded base)))
        (fun t => t.kq.rejectedScans == 0 && (siteQual t 0).state == .candidate) = true := by decide +kernel

/-- R36: the stuck limit of 20 s, at its last millisecond and one before. -/
theorem test_stuckExpiry :
    leads (exec (.stuckExpiry 7) { holds 0 tabletOwns base with clock := 20000 })
        (fun t => (siteQual t 7).state == .idle && t.kr.table.isEmpty && t.tq.reports.map Report.reason == [some .stuck]) = true ∧
      leads (exec (.stuckExpiry 7) { holds 0 tabletOwns base with clock := 19999 })
        (fun t => (siteQual t 7).state == .pressed) = true := by decide +kernel

/-- Site 7 is the repeat candidate, and the repeat timer has run out. -/
def repeating (s : State) : State :=
  let s1 := holds 0 tabletOwns s
  s1.setKr { s1.kr with candidate := some 1, repeatTimer := some (ranOut 500) }

/-- R111: a REPEAT for the tablet, and the interval from the expiry; none for a covered class under the lockout. -/
theorem test_repeatExpiry :
    leads (exec .repeatExpiry (repeating base)) (fun t =>
        t.tq.reports.map Report.kind == [.repetition] && t.kr.repeatTimer == some { start := 0, span := 33 }) = true ∧
      leads (exec .repeatExpiry (lockIs .engaging (repeating base))) (fun t => t.tq.reports.isEmpty) = true := by decide +kernel

/-- R145, R148: a read starts with the interrupt asserted; a third failure in a row is FAULT. -/
theorem test_touchReads :
    leads (exec (.touchReadStart true) base) (fun t => t.tpi.reading) = true ∧
      leads (exec (.touchReadStart false) base) (fun t => !t.tpi.reading) = true ∧
      leads (exec (.touchReadComplete .noAck) (reads (base.setTpi { base.tpi with failRun := 2 })))
        (fun t => t.tpi.contact == .fault && t.tpi.faults == 1 && t.tpi.retry == some { start := 0, span := 100 }) = true := by
  decide +kernel

/-- R147: a contact-down is a press of class 15, and the touch-up is at the last sample, not at the one that showed the lift. -/
theorem test_touchReadComplete_moves_the_contact :
    leads (exec (.touchReadComplete (.sample true 5 6)) (reads (linkIs .up (base.setDss { base.dss with current := .tablet })))) (fun t =>
        t.tq.reports.map (fun r => (r.kind, r.body)) == [(.touchDown, .touch 5 6)]) = true ∧
      leads (exec (.touchReadComplete (.sample false 5 6)) (reads (touches base)))
        (fun t => t.tq.reports.map (fun r => (r.kind, r.body)) == [(.touchUp, .touch 100 200)] && t.tpi.contact == .none) = true := by
  decide +kernel

/-- R90, R106: the grace's end withdraws the covered entry with reason LOCKOUT. -/
theorem test_graceExpiry :
    leads (exec .graceExpiry (lockIs .engaging (holds 0 bothOwn base))) (fun t =>
      t.mlu.lockout == .engaged && t.tq.reports.map Report.reason == [some .lockout] &&
        t.kr.table.map HeldEntry.owners == [{ tablet := false, gateway := true }]) = true := by decide +kernel

/-- R79: the fourth mark without a frame; R81: then the motion is UNKNOWN. -/
theorem test_stalenessMark :
    leads (exec .stalenessMark (parked (base.setMlu { base.mlu with
        staleness := 3, stalenessMark := ranOut 125, signals := { noSignals with speed := some 0 } })))
      (fun t => t.mlu.staleness == 4) = true := by decide +kernel

/-- R77, R81, R211: a speed of Soff, 30, parks the van; FFFFh is not available; a frame of three bytes is only counted. -/
theorem test_vehicleState :
    leads (exec (.vehicleState (vehicleFrame [0x00#8, 0x1E#8, 0x02#8, 0x02#8])) base)
        (fun t => t.mlu.motion == .parked && t.mlu.signals.ignition == some true && t.vp.online) = true ∧
      leads (exec (.vehicleState (vehicleFrame [0xFF#8, 0xFF#8, 0x01#8, 0x01#8])) base)
        (fun t => t.mlu.motion == .unknown && t.dss.target == .gateway && t.pins.vsel == .gateway) = true ∧
      leads (exec (.vehicleState (vehicleFrame [0#8, 0#8, 0#8])) base) (fun t => t.vp.stateFormats == 1 && t.mlu.received == false) = true := by
  decide +kernel

/-- R75, R202, R204: ignition off in ABSENT starts the standby timer; in STANDBY ignition on, with reverse, ends STANDBY and switches the display. -/
theorem test_ignition_report :
    leads (exec (.vehicleState (vehicleFrame [0#8, 0#8, 0x00#8, 0x02#8])) base)
        (fun t => t.sst.standbyTimer == some { start := base.clock, span := 60000 }) = true ∧
      leads (exec (.vehicleState (vehicleFrame [0#8, 0#8, 0x03#8, 0x03#8])) (base.setSst { base.sst with standby := true }))
        (fun t => !t.sst.standby && t.sst.standbyTimer.isNone && t.dss.target == .gateway &&
          t.dss.settle == some { start := base.clock, span := 40 }) = true := by decide +kernel

/-- R177: a frame that is neither base + 0 nor base + 1, a remote frame and one with a longer identifier are ignored. -/
theorem test_other_frames_are_ignored :
    let offline := fun c => leads (exec c base) (fun t => !t.vp.online && t.mlu.received == false && t.vp.reply == none)
    offline (.vehicleState { header := gatewayHeader 2, data := [0#8, 0#8, 0#8, 0#8] }) = true ∧
      offline (.vehicleState { header := { gatewayHeader 0 with remote := true }, data := [] }) = true ∧
      offline (.vehicleState { header := { gatewayHeader 0 with extended := true }, data := [0#8, 0#8, 0#8, 0#8] }) = true ∧
      offline (.editBegin (.vehiclePort (gatewayHeader 4)) []) = true := by decide +kernel

/-- R177, R184: the identifier says what a frame is: a command's bytes at base + 0 are a VEHICLE_STATE, counted where they are not four,
and data at base + 1 are a command: NIGHT_CAP (60), an UNKNOWN code, and none. -/
theorem test_identifier_says_what_a_frame_is :
    leads (exec (.editBegin (.vehiclePort (gatewayHeader 0)) []) base)
        (fun t => t.vp.online && t.vp.stateFormats == 1 && t.crm.shadow.isNone && t.vp.reply.isNone) = true ∧
      leads (exec (.setRoute (.vehiclePort (gatewayHeader 0)) [0x1E#8, 0x02#8, 0x02#8]) base)
        (fun t => t.mlu.received && t.mlu.signals.ignition == some true && t.mlu.signals.speed == some 0x101E) = true ∧
      leads (exec (.vehicleState { header := gatewayHeader 1, data := [0x47#8, 60#8] }) base)
        (fun t => t.blr.nightCap == 60 && t.vp.stateFormats == 0 && t.vp.reply.isSome && t.mlu.received == false) = true ∧
      leads (exec (.vehicleState { header := gatewayHeader 1, data := [0#8, 0#8, 0#8, 0#8] }) base)
        (fun t => t.vp.reply.isSome && segmentsDue t == replySegments 0#8 .unknown []) = true ∧
      leads (exec (.vehicleState { header := gatewayHeader 1, data := [] }) base)
        (fun t => t.vp.online && t.vp.commandDrops == 1 && t.vp.reply.isNone) = true := by decide +kernel

/-- R184, R178, R179: a command dropped is counted; the silence of 1000 ms is OFFLINE; a bus-off holds off, and the rejoin follows. -/
theorem test_vehicle_port_events :
    leads (exec .gatewayCommandDropped base) (fun t => t.vp.commandDrops == 1 && t.vp.online) = true ∧
      leads (exec (.silenceExpiry false) (queued (online base))) (fun t => !t.vp.online && t.gq.reports.isEmpty) = true ∧
      leads (exec .busOff (online base)) (fun t => t.vp.heldOff && !t.vp.online && t.vp.busOffs == 1) = true ∧
      leads (exec .holdOffExpiry (base.setVp { base.vp with heldOff := true, holdOff := some (ranOut 1000) }))
        (fun t => !t.vp.heldOff && t.vp.controlSlot.isSome) = true := by decide +kernel

/-- R176, R182, R183, R210: the head is removed and the next report loaded; the next segment follows; a status mark makes a PART_STATUS. -/
theorem test_transmit_completions :
    leads (exec .keyReportTxComplete (base.setVp { base.vp with reportSlot := some (sentAt 3 .flexible []) } |>.setGq
        { base.gq with reports := [press 1, press 2], headHeld := true }))
      (fun t => t.gq.reports == [press 2] && t.vp.reportSlot == some (sentAt 3 .flexible (keyReportData (press 2)))) = true ∧
      leads (exec .controlTxComplete (replying [[5#8]] false base)) (fun t => t.vp.controlSlot == some (.segment (sentAt 2 .flexible [5#8]))) = true ∧
      leads (exec .statusMark (base.setVp { base.vp with statusDue := false, statusMark := ranOut 1000 }))
        (fun t => match t.vp.controlSlot with
          | some (.partStatus f) => f == sentAt 4 .classical [2#8, 1#8, 0#8, 0#8, 0#8, 4#8, 1#8, 1#8]
          | _ => false) = true := by decide +kernel

/-- An installation whose line 0 is the reverse lamp, active low, and the source of reverse. -/
def reverseLine : Installation :=
  { defaultInstallation with
    reverse := .aux
    lines := [{ mode := .inputLow, function := .reverse }, disabledLine, disabledLine, disabledLine] }

/-- The reverse line is installed, its raw level low and its debounce time run out. -/
def lined (s : State) : State :=
  s.setAxl { install := reverseLine, lines := s.axl.lines.set 0 { raw := false, debounced := none, timer := some (ranOut 20) } }

/-- R188, R189: a change of level starts 20 ms; a low level of an INPUT_LOW line is reverse asserted. -/
theorem test_auxiliary_lines :
    leads (exec (.auxLevelChange 0 true) (lined base))
        (fun t => t.axl.lines[0]? == some { raw := true, debounced := none, timer := some { start := 0, span := 20 } }) = true ∧
      leads (exec (.auxDebounceExpiry 0) (lined base)) (fun t =>
        t.mlu.signals.reverse == some true && t.dss.target == .gateway && t.dss.settle == some { start := 0, span := 40 }) = true := by
  decide +kernel

/-- R141, R151, R153: the settle's end, a gate at its limit of 4095, a gate's end, and a mark of 4. -/
theorem test_display_and_backlight :
    leads (exec .settleExpiry (base.setDss { base.dss with target := .gateway, settle := some (ranOut 40) }))
        (fun t => t.dss.current == .gateway && t.dss.settle == none) = true ∧
      leads (exec .lightPulse (base.setBlr { base.blr with gateCount := 4095 })) (fun t => t.blr.gateCount == 4095) = true ∧
      leads (exec .lightGateEnd (base.setBlr { base.blr with gateCount := 400, gateEnd := ranOut 100 }))
        (fun t => t.blr.light == 400 && t.blr.gateCount == 0) = true ∧
      leads (exec .rampMark (base.setBlr { base.blr with level := 148, target := 97, rampMark := ranOut 20 }))
        (fun t => t.blr.level == 144 && t.pins.blpwm == 144) = true := by decide +kernel

/-- R159 to R161: SETTLING, the drop timer, WAITING, ABSENT and STALE. -/
theorem test_presence :
    leads (exec .tpresAsserted base) (fun t => t.dlp.link == .settling) = true ∧
      leads (exec .tpresDeasserted (linkIs .up (base.setDlp { base.dlp with tpres := true })))
        (fun t => t.dlp.dropTimer == some { start := 0, span := 50 } && t.dlp.link == .up) = true ∧
      leads (exec .presenceSettleExpiry (linkIs .settling (base.setDlp { base.dlp with settleTimer := some (ranOut 250) })))
        (fun t => t.dlp.link == .waiting) = true ∧
      leads (exec .presenceDropExpiry (linkIs .up (queued (base.setDlp { base.dlp with dropTimer := some (ranOut 50) }))))
        (fun t => t.dlp.link == .absent && t.tq.reports.isEmpty && t.dlp.portResets == 1) = true ∧
      leads (exec .staleExpiry (linkIs .up (base.setDlp { base.dlp with staleTimer := some (ranOut 1000) })))
        (fun t => t.dlp.link == .stale) = true := by decide +kernel

/-- R161, R164: the frame of GET_REPORTS (2) brings the link UP; its last byte alone does so too, and a wrong one is a CRC error. -/
theorem test_dock_receiver :
    leads (exec (.dockFrameReceived 1#8 [2#8]) (linkIs .waiting base))
        (fun t => t.dlp.link == .up && t.dlp.frames == [{ type := 1#8, payload := [2#8] }]) = true ∧
      leads (exec (.dockLinkByteReceived 0x70#8 false) (linkIs .waiting (base.setDlp { base.dlp with
        assembly := some [0xA5#8, 1#8, 1#8, 2#8] }))) (fun t => t.dlp.frames == [{ type := 1#8, payload := [2#8] }]) = true ∧
      leads (exec (.dockLinkByteReceived 0x71#8 false) (linkIs .waiting (base.setDlp { base.dlp with
        assembly := some [0xA5#8, 1#8, 1#8, 2#8] }))) (fun t => t.dlp.frames.isEmpty && t.dlp.crcErrors == 1) = true := by
  decide +kernel

/-- R2, R165: after 6 ticks a byte ends a frame in assembly, after 4 it does not, and at 5 its operand says; a tick counts the quiet. -/
theorem test_dock_receiver_gap :
    let at_ := fun (quiet : Nat) (gap : Bool) =>
      leads (exec (.dockLinkByteReceived 0xA5#8 gap) (linkIs .up (base.setDlp { base.dlp with
        assembly := some [0xA5#8], quiet := quiet }))) (fun t => t.dlp.gapErrors == 1 && t.dlp.quiet == 0)
    (at_ 6 false, at_ 5 true, at_ 5 false, at_ 4 true) = (true, true, false, false) ∧
      leads (exec .timebaseTick (base.setDlp { base.dlp with quiet := 5 })) (fun t => t.dlp.quiet == 6) = true := by decide +kernel

/-- R202, R203: STANDBY after its timer. R197: write 17 ends the save, and a write that fails to verify does too. -/
theorem test_standby_and_page_writes :
    leads (exec .standbyTimerExpiry (base.setSst { base.sst with standbyTimer := some (ranOut 60000) }))
        (fun t => t.sst.standby && t.kfs.standbyScan) = true ∧
      leads (exec (.pageWriteEnd true) (saves 17 base)) (fun t => t.sst.save == none && t.dlp.notices == 0x0501#16) = true ∧
      leads (exec (.pageWriteEnd true) (saves 16 base)) (fun t => t.sst.save.map Save.write == some 17) = true := by decide +kernel

/-- A page write that does not verify: STORE_FAIL for both masters, whatever the free bytes are. -/
theorem test_page_write_fails : ∃ t, exec (.pageWriteEnd false) (saves 3 base) = .next t ∧ t.sst.save = none := ⟨_, rfl, rfl⟩

/-! ### The tablet's commands at the boundaries of their ranges (R206) -/

/-- OK is 0, BUSY 1, LOCKED 2, RANGE 3, ILLEGAL 4, DENIED 5, STATE 6, UNKNOWN 7, FORMAT 8 (R208). -/
theorem test_reading_commands_answer :
    ([0#8, 1#8, 8#8, 9#8].map fun n => dockSays .getReports 0x01#8 [n] base) = [some 3#8, some 0#8, some 0#8, some 3#8] ∧
      ([0#8, 4#8, 5#8].map fun n => dockSays .getStatus 0x02#8 [n] base) = [some 0#8, some 0#8, some 3#8] ∧
      dockSays .getCounters 0x03#8 [] base = some 0#8 ∧ dockSays .getSnapshot 0x1C#8 [] base = some 6#8 ∧
      ([95#8, 96#8].map fun n => dockSays .snapshotSelect 0x1B#8 [n] base) = [some 0#8, some 3#8] := by decide +kernel

theorem test_notice_commands_answer :
    dockSays .clearNotices 0x04#8 [0x1F#8, 0xFF#8] base = some 0#8 ∧ dockSays .clearNotices 0x04#8 [0x20#8, 0#8] base = some 3#8 ∧
      dockSays .setNoticeMask 0x05#8 [0x1F#8, 0xFF#8] base = some 0#8 ∧ busSays .clearNotices [0x1F#8, 0xFF#8] base = some 0#8 ∧
      busSays .setNoticeMask [0x20#8, 0#8] base = some 3#8 ∧
      leads (exec (.clearNotices .dockLink [0#8, 1#8]) (asks 0x04#8 [0#8, 1#8] base))
        (fun t => t.dlp.notices == 0x0400#16 && t.vp.notices == 0x0401#16) = true := by decide +kernel

theorem test_setRoute_checks_in_order :
    dockSays .setRoute 0x10#8 [0#8, 4#8, 1#8] base = some 0#8 ∧ dockSays .setRoute 0x10#8 [16#8, 4#8, 1#8] base = some 3#8 ∧
      dockSays .setRoute 0x10#8 [0#8, 5#8, 1#8] base = some 3#8 ∧ dockSays .setRoute 0x10#8 [0#8, 4#8, 2#8] base = some 3#8 ∧
      dockSays .setRoute 0x10#8 [15#8, 4#8, 0#8] base = some 0#8 ∧ dockSays .setRoute 0x10#8 [15#8, 4#8, 1#8] base = some 4#8 ∧
      dockSays .setRoute 0x10#8 [15#8, 1#8, 0#8] base = some 4#8 ∧ dockSays .setRoute 0x10#8 [0#8, 4#8, 1#8] (locked base) = some 2#8 ∧
      dockSays .setRoute 0x10#8 [0#8, 4#8, 1#8] (base.setCrm { base.crm with shadow := some base.crm.live }) = some 1#8 := by
  decide +kernel

theorem test_setKey_checks_in_order :
    let answer := fun args s => dockSays .setKey 0x11#8 args s
    answer [95#8, 1#8, 9#8, 14#8, 0x03#8, 0xFF#8, 0x03#8, 0xFB#8] (parked base) = some 0#8 ∧
      answer [95#8, 1#8, 9#8, 14#8, 0x03#8, 0xFF#8, 0x03#8, 0xFC#8] (parked base) = some 3#8 ∧
      answer [0#8, 0#8, 9#8, 0#8, 0#8, 8#8, 0#8, 4#8] (parked base) = some 0#8 ∧
      answer [0#8, 0#8, 9#8, 0#8, 0#8, 7#8, 0#8, 3#8] (parked base) = some 3#8 ∧
      answer [96#8, 0#8, 9#8, 0#8, 0#8, 8#8, 0#8, 4#8] (parked base) = some 3#8 ∧
      answer [0#8, 0#8, 9#8, 15#8, 0#8, 8#8, 0#8, 4#8] (parked base) = some 4#8 ∧
      answer [0#8, 0#8, 9#8, 0#8, 0#8, 8#8, 0#8, 4#8] base = some 6#8 ∧
      answer [0#8, 0#8, 9#8, 0#8, 0#8, 8#8, 0#8, 4#8] (locked base) = some 2#8 := by decide +kernel

theorem test_setKey_disables_a_held_key :
    leads (exec (.setKey .dockLink [7#8, 0#8, 9#8, 0#8, 0#8, 60#8, 0#8, 20#8])
      (asks 0x11#8 [7#8, 0#8, 9#8, 0#8, 0#8, 60#8, 0#8, 20#8] (parked (holds 0 tabletOwns base)))) (fun t =>
      (siteQual t 7).state == .off && t.kr.table.isEmpty && t.tq.reports.map Report.reason == [some .config]) = true := by
  decide +kernel

theorem test_setTrim_answers :
    let answer := fun args => dockSays .setTrim 0x12#8 args (parked base)
    answer [95#8, 0x01#8, 0xFF#8, 0x07#8, 0xFF#8] = some 0#8 ∧ answer [95#8, 0xFE#8, 0x00#8, 0#8, 0#8] = some 0#8 ∧
      answer [96#8, 0#8, 0#8, 0#8, 0#8] = some 3#8 ∧ answer [0#8, 0x02#8, 0x00#8, 0#8, 0#8] = some 3#8 ∧
      answer [0#8, 0xFD#8, 0xFF#8, 0#8, 0#8] = some 3#8 ∧ answer [0#8, 0#8, 0#8, 0x08#8, 0#8] = some 3#8 := by decide +kernel

/-- R45: pending for an IDLE site, at once for an OFF one; R44: TRIM_RANGE for the tablet alone. -/
theorem test_setTrim_takes_effect :
    leads (exec (.setTrim .dockLink [7#8, 0#8, 5#8, 0#8, 6#8]) (asks 0x12#8 [7#8, 0#8, 5#8, 0#8, 6#8] (parked base)))
        (fun t => (siteQual t 7).trim == some { offset := 5, gain := 6 } && (siteRecord t 7).offset == 0) = true ∧
      leads (exec (.setTrim .dockLink [95#8, 0xFF#8, 0xFF#8, 0#8, 6#8]) (asks 0x12#8 [95#8, 0xFF#8, 0xFF#8, 0#8, 6#8] (parked base)))
        (fun t => (siteRecord t 95).offset == -1 && (siteRecord t 95).gain == 6) = true ∧
      leads (exec (.setTrim .dockLink [96#8, 0#8, 0#8, 0#8, 0#8]) (asks 0x12#8 [96#8, 0#8, 0#8, 0#8, 0#8] (parked base)))
        (fun t => t.dlp.notices == 0x1401#16 && t.vp.notices == 0x0401#16) = true := by decide +kernel

theorem test_settings_commands_answer :
    dockSays .setQualify 0x13#8 (qualifyBytes defaultQualify) (parked base) = some 0#8 ∧
      dockSays .setQualify 0x13#8 (qualifyBytes { defaultQualify with np := 8 }) (parked base) = some 3#8 ∧
      ([[0x00#8, 0xFA#8, 20#8], [0x03#8, 0xE8#8, 200#8], [0x00#8, 0xF9#8, 20#8], [0x03#8, 0xE9#8, 20#8], [0x00#8, 0xFA#8, 19#8],
        [0x00#8, 0xFA#8, 201#8]].map fun a => dockSays .setRepeat 0x14#8 a base) =
        [some 0#8, some 0#8, some 3#8, some 3#8, some 3#8, some 3#8] ∧
      dockSays .setBrightness 0x15#8 [255#8] base = some 0#8 ∧
      ([0#8, 1#8, 2#8].map fun v => dockSays .requestDisplay 0x16#8 [v] base) = [some 0#8, some 0#8, some 3#8] ∧
      dockSays .setTouchCal 0x17#8 (calBytes { xmin := 0, xmax := 256, ymin := 3839, ymax := 4095 }) base = some 0#8 ∧
      dockSays .setTouchCal 0x17#8 (calBytes { xmin := 1, xmax := 256, ymin := 0, ymax := 4095 }) base = some 3#8 := by decide +kernel

theorem test_setInstall_answers :
    dockSays .setInstall 0x18#8 (installBytes reverseLine) (parked base) = some 0#8 ∧
      dockSays .setInstall 0x18#8 (installBytes { reverseLine with base := 0x7FB }) (parked base) = some 0#8 ∧
      dockSays .setInstall 0x18#8 (installBytes { reverseLine with base := 0x7FC }) (parked base) = some 3#8 ∧
      dockSays .setInstall 0x18#8 (installBytes { reverseLine with lines := List.replicate 4 { mode := .inputLow, function := .reverse } })
        (parked base) = some 4#8 := by decide +kernel

theorem test_save_load_and_port_reset_answer :
    dockSays .saveSettings 0x19#8 [] (parked base) = some 0#8 ∧ dockSays .saveSettings 0x19#8 [] (parked (saves 2 base)) = some 1#8 ∧
      dockSays .saveSettings 0x19#8 [] base = some 6#8 ∧ busSays .saveSettings [] base = some 0#8 ∧
      dockSays .loadSettings 0x1A#8 [] (parked base) = some 0#8 ∧ dockSays .loadSettings 0x1A#8 [] (parked (saves 2 base)) = some 1#8 ∧
      leads (exec (.resetPort .dockLink []) (asks 0x06#8 [] (linkIs .up (queued base))))
        (fun t => t.dlp.link == .waiting && t.tq.reports.isEmpty && t.dlp.notices == 0#16) = true := by decide +kernel

/-- R58, R167, R184: what each port says to a command of the other, to a wrong length and to a code without a command. -/
theorem test_ports_refuse :
    dockSays .displayHold 0x46#8 [] base = some 5#8 ∧ dockSays .getStatus 0x02#8 [] base = some 8#8 ∧
      busSays .getStatus [0#8] base = some 7#8 ∧ busSays .displayHold [] base = some 8#8 ∧
      dockStatus (exec (.unknownCommand .dockLink 0x1D#8 []) (asks 0x1D#8 [] base)) = some 7#8 ∧
      busSays (fun m a => .unknownCommand m 0x4B#8 a) [] base = some 7#8 := by decide +kernel

/-! ### The gateway's commands at the boundaries of their ranges (R206) -/

theorem test_route_answers :
    busSays .route [0#8, 4#8, 1#8, 1#8, 1#8, 1#8] base = some 0#8 ∧ busSays .route [16#8, 4#8, 1#8, 1#8, 1#8, 1#8] base = some 3#8 ∧
      busSays .route [0#8, 5#8, 1#8, 1#8, 1#8, 1#8] base = some 3#8 ∧ busSays .route [0#8, 4#8, 1#8, 1#8, 1#8, 2#8] base = some 3#8 ∧
      busSays .route [15#8, 4#8, 0#8, 1#8, 1#8, 1#8] base = some 0#8 ∧ busSays .route [15#8, 3#8, 0#8, 1#8, 1#8, 1#8] base = some 4#8 := by
  decide +kernel

/-- R59, R62, R63: the shadow and the live map. -/
theorem test_edit_commands :
    leads (exec (.editBegin bus []) base) (fun t => t.crm.shadow == some base.crm.live) = true ∧
      busSays .editApply [] base = some 6#8 ∧
      leads (exec (.editApply bus []) (base.setCrm { base.crm with shadow := some [] })) (fun t =>
        t.crm == { live := [], shadow := none }) = true ∧
      leads (exec (.editAbandon bus []) (base.setCrm { base.crm with shadow := some [] })) (fun t => t.crm == base.crm) = true := by
  decide +kernel

theorem test_lockout_commands_answer :
    ([0#8, 2#8, 3#8].map fun v => busSays .lockoutMode [v] base) = [some 0#8, some 0#8, some 3#8] ∧
      busSays .lockoutMode [0#8] (base.setMlu { base.mlu with mode := .onLocked }) = some 2#8 ∧
      busSays .lockoutParams (paramsBytes { son := 1000, soff := 990, grace := 5000, brakeRequired := true }) base = some 0#8 ∧
      busSays .lockoutParams (paramsBytes { son := 10, soff := 0, grace := 500, brakeRequired := false }) base = some 0#8 ∧
      busSays .lockoutParams (paramsBytes { son := 10, soff := 1, grace := 500, brakeRequired := false }) base = some 3#8 ∧
      busSays .lockoutParams (paramsBytes { son := 1001, soff := 0, grace := 500, brakeRequired := false }) base = some 3#8 ∧
      busSays .lockoutParams (paramsBytes { son := 10, soff := 0, grace := 499, brakeRequired := false }) base = some 3#8 := by
  decide +kernel

theorem test_gateway_settings_answer :
    ([0#8, 1#8, 2#8].map fun v => busSays .displayHold [v] base) = [some 0#8, some 0#8, some 3#8] ∧
      ([7#8, 8#8, 255#8].map fun v => busSays .nightCap [v] base) = [some 3#8, some 0#8, some 0#8] ∧
      busSays .configLock [] base = some 0#8 ∧ ([0#8, 3#8, 4#8].map fun v => busSays .statusRequest [v] base) =
        [some 0#8, some 0#8, some 3#8] := by decide +kernel

/-- R187: the reset comes with the reply's end, and its cause is COMMANDED. -/
theorem test_resetPart_resets_after_its_reply :
    leads (exec (.resetPart bus []) (base.setVp { base.vp with statusDue := false }))
        (fun t => t.vp.reply == some { rest := [], resets := true } && t.sst.cause == .powerOn) = true ∧
      leads (exec .controlTxComplete (replying [] true base)) (fun t => t.sst.cause == .commanded) = true := by decide +kernel

/-! ### Witnesses: a state and operands that meet the premises of each statement

The name of a witness ends in the name of the statement; its parts stand in the order of the statement's clauses. -/

/-- A running part. -/
theorem witness_CommandsCompleteAndOnlyTicksMoveTime : base.held = false := rfl

theorem witness_FullResetsStartThePartUp :
    base.sst.save = none ∧ (base.setHeld true).held = true ∧
      (let s := replying [] true base
       s.held = false ∧ s.sst.save = none ∧ s.vp.controlSlot = some (.segment (sentAt 2 .flexible [])) ∧
         s.vp.reply = some { rest := [], resets := true } ∧ s.vp.heldOff = false) := by decide +kernel

theorem witness_SupplyDipHoldsThePart : base.sst.save = none ∧ (base.setHeld true).held = true := by decide +kernel

/-- At write 1 the image still stands; past it the header is cleared. -/
theorem witness_InterruptedSaveLoadsFactoryDefaults :
    (saveLaw (saves 1 base) = true ∧ (saves 1 base).sst.save.isSome = true) ∧
      (saveLaw (saves 17 base) = true ∧ (saves 17 base).sst.save.isSome = true) ∧
      (let s := replying [] true (saves 5 base)
       saveLaw s = true ∧ s.sst.save.isSome = true ∧ s.held = false ∧ s.vp.controlSlot = some (.segment (sentAt 2 .flexible [])) ∧
         s.vp.reply = some { rest := [], resets := true } ∧ s.vp.heldOff = false) := by decide +kernel

theorem witness_ScanStartTakesEnabledSites :
    (base.held = false ∧ base.kfs.nextStart.due base.clock = true) ∧ base.kfs.standbyScan = false ∧
      (base.setKfs { base.kfs with standbyScan := true }).kfs.nextStart.due 0 = true := by decide +kernel

/-- A completion at which site 7 alone raises an event, and the guard and the faults stay as they are. -/
def oneEvent (s : State) (n : Count) (i : Nat) (ev : KeyEvent) : Bool :=
  let c := runStages s (List.range 84) 1500 (touchSeven n)
  s.mlu.conditionTaken && c.guard.wet == s.kq.guard.wet && c.sites.all (fun p => !p.faulted) && c.sites.length == 96 &&
    (c.sites[i]?.map SitePass.event == some (some ev)) &&
    (List.range 96).all fun j => j == i || (c.sites[j]?.map SitePass.event) == some none

/-- Site 7 of the seeded part stands in this state, with one completion of its debounce run done. -/
def sevenIn (st : SiteState) (run : Nat) : State :=
  scans (setSiteQual 7 { siteQual (seeded base) 7 with state := st, debounce := 1, railRun := run, pressTime := some 0 } (seeded base))

/-- A PRESS, a RELEASE, a forced release after 20 s, and no event. The clause on a fault's forced release excludes `quiet`. -/
theorem witness_ScanCompletionsStoreAndReport_events :
    (sevenIn .candidate 0).held = false ∧ (sevenIn .candidate 0).kfs.measured = some (List.range 84) ∧
      oneEvent (sevenIn .candidate 0) 1900 7 .press = true ∧ oneEvent (sevenIn .releasing 0) 1800 7 .release = true ∧
      oneEvent { sevenIn .pressed 0 with clock := 20000 } 1900 7 (.forced .stuck) = true ∧
      (runStages (sevenIn .idle 0) (List.range 84) 1500 (touchSeven 1800)).sites.all (fun p => p.event == none) = true := by
  decide +kernel

/-- What `oneEvent` finds is the premise of the statement on a completion with one event. -/
theorem witness_ScanCompletionsStoreAndReport_alone (j : Nat) (q : SitePass)
    (h : (runStages (sevenIn .candidate 0) (List.range 84) 1500 (touchSeven 1900)).sites[j]? = some q) (hj : j ≠ 7) :
    q.event = none := by
  have all : (List.range 96).all (fun j => j == 7 ||
      ((runStages (sevenIn .candidate 0) (List.range 84) 1500 (touchSeven 1900)).sites[j]?.map SitePass.event) == some none) = true := by
    decide +kernel
  have len : (runStages (sevenIn .candidate 0) (List.range 84) 1500 (touchSeven 1900)).sites.length = 96 := by decide +kernel
  have lt : j < 96 := by rw [← len]; exact (List.getElem?_eq_some_iff.mp h).1
  have this := List.all_eq_true.mp all j (List.mem_range.mpr lt)
  simpa [h, hj] using this

/-- The first completion after a full reset, with the lockout condition true and false. -/
theorem witness_ScanCompletionsStoreAndReport_first :
    let s := scans base
    (s.held = false ∧ s.kfs.measured = some (List.range 84) ∧ s.kfs.records.length = 96 ∧ s.kq.quals.length = 96 ∧
      (flat 1800).length = 96 ∧ s.kq.guard.reseed = true ∧ s.kq.settings.guardThr ≠ 0 ∧ s.mlu.conditionTaken = false ∧
      s.mlu.lockout = .opened) ∧
      (∀ q ∈ s.kq.quals, q.reseed = true ∧ q.trim = none ∧ q.railRun = 0 ∧ (q.state = .idle ∨ q.state = .off)) ∧
      lockoutCondition s = true ∧ coveredCount s = 0 ∧ lockoutCondition (parked s) = false := by decide +kernel

/-- Site 7, held, reads the rail for the eighth time while site 9 qualifies: two events in ascending order, at a first completion. -/
theorem witness_ScanCompletionsStoreAndReport_several :
    let s1 := setSiteQual 9 { siteQual (seeded base) 9 with state := .candidate, debounce := 1 } (sevenIn .pressed 7)
    let s := s1.setMlu { s1.mlu with conditionTaken := false }
    s.held = false ∧ s.kfs.measured = some (List.range 84) ∧ s.mlu.conditionTaken = false ∧
      eventsFrom 0 (runStages s (List.range 84) 1500 ((flat 1800 |>.set 7 0).set 9 1900)).sites =
        [(7, .forced .fault), (9, .press)] := by decide +kernel

theorem witness_MeasurementsAreScaledAndClamped :
    (40 ≤ 4095 ∧ (-512 : Int) ≤ -60 ∧ (-60 : Int) ≤ 511 ∧ ((40 : Int) + -60 ≤ 0)) ∧
      (4095 ≤ 4095 ∧ (-512 : Int) ≤ 511 ∧ (511 : Int) ≤ 511 ∧ 2047 ≤ 2047 ∧ (0 : Int) < 4095 + 511) ∧
      (2050 ≤ 4095 ∧ 200 + 256 ≤ 3900 ∧ 3900 ≤ 4095 ∧ 200 ≤ 2050 ∧ 2050 ≤ 3900) := by decide

/-- The premises on `baselineUpdate` at the edges of the half-threshold 30 and of the run 3, and those on the runs. -/
theorem witness_BaselinesAndRunsFollowTheReadings :
    let d := fun base count : Nat => (count : Int) - (base / 16 : Nat)
    (d 30400 1870 ≤ -30 ∧ 2 + 1 < 4 ∧ 4 ≤ 3 + 1) ∧ (-30 < d 30400 1871 ∧ d 30400 1871 < 30) ∧ (30 : Int) ≤ d 30400 1930 ∧
      (let g := base.kq.guard
       g.wet = false ∧ g.wetRun < 2 ∧ { g with wetRun := 2 }.wetRun = 2 ∧ { g with wet := true, dryRun := 18 }.dryRun < 19 ∧
         { g with wet := true, dryRun := 19 }.dryRun = 19) ∧
      (let q := siteQual base 7
       q.state ≠ .fault ∧ { q with railRun := 7 }.railRun = 7 ∧ { q with railRun := 6 }.railRun < 7 ∧
         { q with state := SiteState.fault, clearRun := 6 }.clearRun < 7 ∧ ¬(4094 = 0 ∨ 4094 = 4095) ∧
         { q with state := SiteState.fault, clearRun := 7 }.clearRun = 7) := by decide +kernel

/-- A rejected completion over IDLE and CANDIDATE sites, and events in a completion that is not. -/
theorem witness_CompletionStagesRejectAndRaiseEvents :
    (runStages (sevenIn .candidate 0) (List.range 84) 1500 (List.replicate 8 1900 ++ List.replicate 88 1800)).rejected = true ∧
      (siteQual (sevenIn .candidate 0) 7).state = .candidate ∧ (siteQual (sevenIn .candidate 0) 6).state = .idle ∧
      ((runStages (sevenIn .candidate 0) (List.range 84) 1500 (touchSeven 1900)).sites[7]?.map SitePass.event = some (some .press)) := by
  decide +kernel

/-- The site's path through a completion: not counted, in FAULT, at the eighth rail reading, reseeded, tracked, stuck and pressed. -/
theorem witness_CompletionStagesQualifyEachSite :
    let s := sevenIn .idle 0
    (s.kfs.records[7]? = some (siteRecord s 7) ∧ s.kq.quals[7]? = some (siteQual s 7) ∧ (flat 1800)[7]? = some 1800 ∧
        (siteRecord s 7).enabled = true ∧ (siteRecord s 84).enabled = false) ∧
      ((siteQual (sevenIn .fault 0) 7).state = .fault ∧ 7 ≤ (siteQual (sevenIn .idle 7) 7).railRun ∧
        (siteQual s 7).reseed = false ∧ (siteQual base 7).reseed = true ∧ (siteQual s 7).trim = none) ∧
      ((siteQual (sevenIn .pressed 0) 7).pressTime = some 0 ∧ s.kq.settings.stuck * 1000 ≤ elapsed 20000 0 ∧
        s.kq.settings.stuck ≠ 0) ∧
      ((runStages s (List.range 84) 1500 (flat 1800)).rejected = false ∧
        (runStages s (List.range 84) 1500 (flat 1900)).rejected = true) ∧
      (s.kq.settings.guardThr ≠ 0 ∧ s.kq.guard.reseed = false ∧ base.kq.guard.reseed = true) := by decide +kernel

theorem witness_StuckExpiryForcesTheRelease :
    let s := { holds 0 tabletOwns base with clock := 20000 }
    s.held = false ∧ s.kq.quals[7]? = some (siteQual s 7) ∧ (siteQual s 7).state = .pressed ∧
      (siteQual s 7).pressTime = some 0 ∧ s.kq.settings.stuck ≠ 0 ∧ s.kq.settings.stuck * 1000 ≤ elapsed s.clock 0 ∧
      (s.kr.table.find? (fun e => e.source == .site 7)).isSome = true := by decide +kernel

/-- The last number is 65,535 and so the next one is 1; and a number that an entry carries is passed over. -/
theorem witness_NextSequenceNumberIsFree :
    let s := base.setKr { base.kr with seq := 65535 }
    queueLaw s = true ∧ s.kr.seq ≤ 65535 ∧ nextSeq s = 1 ∧ nextSeq ((holds 0 tabletOwns base).setKr
      { (holds 0 tabletOwns base).kr with seq := 65535 }) = 2 := by decide +kernel

/-- Full, with room for one and with room for two; a move that coalesces and one whose tail is held; draining that ends at half. -/
theorem witness_QueuesOfferAndRemoveInOrder :
    let q := fun n k : Nat => { emptyQueue with reports := List.replicate n (press 1), reserved := k }
    let move := fun h : Bool => { emptyQueue with reports := [{ press 1 with kind := .touchMove }], headHeld := h }
    (32 ≤ 32 ∧ (q 16 16).reports.length + (q 16 16).reserved = 32 ∧ 32 < (q 16 16).reports.length + (q 16 16).reserved + 1) ∧
      (q 16 15).reports.length + (q 16 15).reserved + 1 ≤ 32 ∧ 1 ≤ (q 16 15).reserved ∧ (q 16 15).draining = false ∧
      ((move false).reports.getLast? = some { press 1 with kind := .touchMove } ∧ (move false).headHeld = false) ∧
      ((move true).headHeld = true ∧ (move true).reports.length = 1) ∧
      (({ q 17 15 with draining := true }.take 16 1).1.draining = false ∧
        ({ q 18 14 with draining := true }.take 16 1).1.draining = true) := by decide +kernel

theorem witness_RepeatExpiryOffersARepeat :
    let s := repeating base
    s.held = false ∧ s.kr.repeatTimer = some (ranOut 500) ∧ (ranOut 500).due s.clock = true ∧ s.kr.candidate = some 1 ∧
      (s.kr.table.find? (fun e => e.seq == 1)).map HeldEntry.code = some 7 ∧ s.kr.repeatDrops ≤ 65535 := by decide +kernel

/-- Under the lockout a tick leaves a press of class 0 in the tablet's queue, which was in it before. -/
theorem witness_LockoutAdmitsNoCoveredPress :
    ∃ t, exec .timebaseTick (lockIs .engaged (queued base)) = .next t ∧ lockoutInEffect (lockIs .engaged (queued base)) = true ∧
      press 1 ∈ t.tq.reports ∧ exemptClass (lockIs .engaged (queued base)) 0 = false :=
  ⟨_, rfl, by decide +kernel, by decide +kernel, by decide +kernel⟩

/-- An entry that was held before, and one that a completion has just made. -/
theorem witness_EntriesAreFixedAndOwnersOnlyLeave :
    (∃ t, exec .timebaseTick (holds 0 bothOwn base) = .next t ∧ t.kr.table.length = 1) ∧
      ∃ t, exec (.scanCompletion 1500 (touchSeven 1900)) (sevenIn .candidate 0) = .next t ∧ t.kr.table.length = 1 :=
  ⟨⟨_, rfl, by decide +kernel⟩, ⟨_, rfl, by decide +kernel⟩⟩

/-- A read 10 ms after the last one, one 9 ms after it, and one in FAULT at its retry time. -/
theorem witness_TouchReadStartsWhenItMay :
    base.held = false ∧ (base.tpi.reading = false ∧ base.sst.standby = false ∧ base.tpi.contact ≠ .fault ∧ base.tpi.lastStart = none) ∧
      10 ≤ elapsed 5 65531 ∧ ¬10 ≤ elapsed 5 65532 ∧
      (let s := base.setTpi { base.tpi with contact := .fault, retry := some (ranOut 100) }
       s.tpi.contact = .fault ∧ dueTimer s.tpi.retry s.clock = true) := by decide +kernel

theorem witness_TouchReadsMoveTheContactOrFail :
    ((reads base).held = false ∧ (reads base).tpi.reading = true ∧ (reads base).tpi.contact ≠ .down) ∧
      ((reads (touches base)).held = false ∧ (reads (touches base)).tpi.reading = true ∧ (reads (touches base)).tpi.contact = .down ∧
        (reads (touches base)).tpi.last = some (scaleAxis 100 0 4095, scaleAxis 200 0 4095) ∧
        ((reads (touches base)).kr.table.find? (fun e => e.source == .touch)).map HeldEntry.owners = some tabletOwns ∧
        (reads (touches base)).tpi.last ≠ some (scaleAxis 101 0 4095, scaleAxis 200 0 4095) ∧
        slotLaw (reads (touches (base.setVp { base.vp with statusDue := false }))) = true ∧
        ((touches base).setKr base.kr).kr.table.find? (fun e => e.source == .touch) = none) ∧
      ((reads base).tpi.failRun < 2 ∧ (reads (base.setTpi { base.tpi with failRun := 2 })).tpi.failRun = 2 ∧
        (reads (base.setTpi { base.tpi with contact := .fault })).tpi.contact = .fault) := by decide +kernel

theorem witness_GraceExpiryWithdrawsCoveredEntries :
    let s := lockIs .engaging (holds 0 bothOwn base)
    s.held = false ∧ s.mlu.lockout = .engaging ∧ s.mlu.graceTimer = some (ranOut 2000) ∧ (ranOut 2000).due s.clock = true ∧
      coveredCount s = 1 := by decide +kernel

/-- The marks run out now, the counter is as given, and a frame was received or not. -/
def stale (n : Nat) (received : Bool) (s : State) : State :=
  s.setMlu { s.mlu with staleness := n, received := received, stalenessMark := ranOut 125 }

theorem witness_FourthStaleMarkLosesTheVehicleData :
    ((stale 3 false base).held = false ∧ lockoutLaw (stale 3 false base) = true ∧
        (stale 3 false base).mlu.stalenessMark.due 0 = true ∧ (stale 3 false base).mlu.received = false ∧
        (stale 3 false base).mlu.staleness = 3 ∧ (stale 3 false base).axl.install.reverse = .can) ∧
      (lockoutLaw (stale 3 true base) = true ∧ (stale 3 true base).mlu.received = true) ∧
      (lockoutLaw (stale 2 false base) = true ∧ (stale 2 false base).mlu.staleness ≠ 3) := by decide +kernel

theorem witness_VehicleStateRenewsTheSignals :
    base.held = false ∧ base.vp.heldOff = false ∧ lockoutLaw base = true ∧ base.axl.install.brake = .can ∧
      ([] : List Byte).length ≠ 4 ∧ (base.setVp { base.vp with heldOff := true }).vp.heldOff = true ∧
      addressed 0 (gatewayHeader 0) base ∧ addressed 1 (gatewayHeader 1) base ∧ ¬addressed 0 (gatewayHeader 2) base ∧
      ¬addressed 1 (gatewayHeader 2) base ∧ namesNoCommand .gateway 0x01#8 = true := by unfold addressed; decide +kernel

/-- The reset state asks nothing of the bus but a status, so a gateway command is taken in it. -/
theorem gatewayAsks_base : gatewayAsks (gatewayHeader 1) base := by unfold gatewayAsks addressed; decide +kernel

theorem witness_LockoutModeAndParamsTakeEffect :
    gatewayAsks (gatewayHeader 1) base ∧ base.mlu.mode ≠ .onLocked ∧ (2#8).toNat = modeCode .onLocked ∧ 2 < (3#8).toNat ∧
      gatewayAsks (gatewayHeader 1) (base.setMlu { base.mlu with mode := .onLocked }) ∧ lockoutLaw base = true ∧
      paramsInRange { son := 10, soff := 0, grace := 5000, brakeRequired := true } = true ∧
      (∀ args ∈ [[0#8, 9#8, 0#8, 0#8, 0x13#8, 0x88#8, 1#8], [0#8, 10#8, 0#8, 1#8, 0x13#8, 0x88#8, 1#8],
          [0#8, 10#8, 0#8, 0#8, 0x13#8, 0x89#8, 1#8], [0#8, 10#8, 0#8, 0#8, 0x13#8, 0x88#8, 2#8]],
        args.length = 7 ∧ lockoutArgs args = none) := by
  unfold gatewayAsks addressed; decide +kernel

theorem witness_GatewayLossGoesOfflineAndRejoins :
    let s := online (queued base)
    (s.held = false ∧ s.vp.online = true ∧ s.vp.silence = some (ranOut 1000) ∧ (ranOut 1000).due s.clock = true) ∧
      (s.vp.heldOff = false ∧ (s.vp.reply.all fun r => !r.resets) = true ∧ base.vp.online = false) ∧
      (let h := base.setVp { base.vp with heldOff := true, holdOff := some (ranOut 1000) }
       h.held = false ∧ h.vp.holdOff = some (ranOut 1000) ∧ (ranOut 1000).due h.clock = true) := by decide +kernel

theorem witness_TransmissionAdvancesTheSlots :
    (let s := (queued base).setVp { base.vp with reportSlot := some (sentAt 3 .flexible []) }
     s.held = false ∧ s.vp.heldOff = false ∧ s.vp.reportSlot = some (sentAt 3 .flexible []) ∧ s.gq.headHeld = true ∧ s.gq.reports = [press 1]) ∧
      (let s := replying [[5#8]] false base
       s.held = false ∧ s.vp.heldOff = false ∧ s.vp.controlSlot = some (.segment (sentAt 2 .flexible [])) ∧
         s.vp.reply = some { rest := [[5#8]], resets := false }) ∧
      (let s := replying [] false base
       s.vp.controlSlot = some (.segment (sentAt 2 .flexible [])) ∧ s.vp.reply = some { rest := [], resets := false }) ∧
      (let s := base.setVp { base.vp with statusMark := ranOut 1000 }
       s.vp.heldOff = false ∧ s.vp.statusMark.due s.clock = true ∧ s.vp.controlSlot = none ∧ s.vp.reply = none) ∧
      (let s := base.setVp { base.vp with reportSlot := some (sentAt 3 .flexible []) }
       s.held = false ∧ s.vp.reportSlot = some (sentAt 3 .flexible []) ∧ s.gq.headHeld = false) ∧
      (let s := base.setVp { base.vp with heldOff := true, statusMark := ranOut 1000 }
       s.held = false ∧ s.vp.heldOff = true ∧ s.vp.statusMark.due s.clock = true) := by decide +kernel

theorem witness_AuxiliaryLinesAreDebounced :
    let s := lined base
    s.held = false ∧ s.axl.lines[0]? = some { raw := false, debounced := none, timer := some (ranOut 20) } ∧
      s.axl.install.lines[0]? = some { mode := .inputLow, function := .reverse } ∧ (ranOut 20).due s.clock = true ∧
      functionsDistinct s.axl.install.lines = true ∧ s.axl.install.reverse = .aux ∧ s.axl.install.brake = .can ∧
      lockoutLaw s = true := by decide +kernel

theorem witness_DisplaySettlesAndBacklightRamps :
    (let s := base.setDss { base.dss with target := .gateway, settle := some (ranOut 40) }
     s.held = false ∧ s.dss.settle = some (ranOut 40) ∧ (ranOut 40).due s.clock = true) ∧
      (let s := base.setBlr { base.blr with gateEnd := ranOut 100, rampMark := ranOut 20 }
       s.blr.gateEnd.due s.clock = true ∧ s.blr.rampMark.due s.clock = true ∧ s.blr.rampMark.expiry = s.blr.gateEnd.expiry) ∧
      (let s := base.setBlr { base.blr with gateEnd := ranOut 100 }
       s.blr.gateEnd.due s.clock = true ∧ s.blr.rampMark.expiry ≠ s.blr.gateEnd.expiry) := by decide +kernel

theorem witness_DisplayCommandsMoveThePicture :
    dockAsks 0x16#8 [flag true] [] (asks 0x16#8 [flag true] base) ∧ gatewayAsks (gatewayHeader 1) base ∧ 8 ≤ (8#8).toNat ∧ (7#8).toNat < 8 ∧
      dockAsks 0x16#8 [2#8] [] (asks 0x16#8 [2#8] base) ∧ 2 ≤ (2#8).toNat := by
  unfold dockAsks gatewayAsks addressed; decide +kernel

theorem witness_PresenceBringsTheLinkUp :
    (base.held = false ∧ base.dlp.tpres = false ∧ base.dlp.link = .absent ∧ base.sst.standby = false) ∧
      ((linkIs .up base).dlp.link ≠ .absent ∧ (base.setSst { base.sst with standby := true }).sst.standby = true) ∧
      (base.setDlp { base.dlp with tpres := true }).dlp.tpres = true ∧
      (let s := linkIs .settling (base.setDlp { base.dlp with settleTimer := some (ranOut 250) })
       s.dlp.link = .settling ∧ s.dlp.settleTimer = some (ranOut 250) ∧ (ranOut 250).due s.clock = true) := by decide +kernel

theorem witness_DropAndResetPortLoseTheTablet :
    (let s := (linkIs .up (base.setDlp { base.dlp with dropTimer := some (ranOut 50) })).setMlu
        { base.mlu with signals := { noSignals with ignition := some false } }
     s.held = false ∧ s.dlp.dropTimer = some (ranOut 50) ∧ (ranOut 50).due s.clock = true ∧ s.sst.standby = false ∧
       s.mlu.signals.ignition = some false ∧ s.sst.standbyTimer = none) ∧
      dockAsks 0x06#8 [] [] (asks 0x06#8 [] base) ∧
      (let s := linkIs .up (base.setDlp { base.dlp with staleTimer := some (ranOut 1000) })
       s.dlp.link = .up ∧ s.dlp.staleTimer = some (ranOut 1000) ∧ (ranOut 1000).due s.clock = true ∧
         s.dss.target = desiredPicture s) := by unfold dockAsks; decide +kernel

theorem witness_StandbyEntryQuietsThePart :
    let s := (touches base).setSst { base.sst with standbyTimer := some (ranOut 60000) }
    s.held = false ∧ s.sst.standby = false ∧ s.sst.standbyTimer = some (ranOut 60000) ∧ (ranOut 60000).due s.clock = true ∧
      s.tpi.contact = .down ∧ base.tpi.contact = .none := by decide +kernel

/-- The longest payload, into a buffer that is left exactly full. -/
theorem witness_EveryFrameSentIsReceived :
    let s := linkIs .waiting (asks 1#8 (List.replicate 120 0#8) base)
    s.held = false ∧ receiving s = true ∧ s.dlp.assembly = none ∧ (List.replicate 128 0#8).length ≤ 128 ∧
      bytesHeld s.dlp + (List.replicate 128 0#8).length + 4 = 256 := by decide +kernel

/-- The receiver has these bytes of a frame, beside `n` payload bytes of a frame taken whole. -/
def assembling (bytes : List Byte) (n : Nat) : State :=
  let s := linkIs .up (asks 1#8 (List.replicate n 0#8) base)
  s.setDlp { s.dlp with assembly := some bytes }

theorem witness_SpoiledFramesAreDiscardedAndCounted :
    let full := assembling [0xA5#8] 251
    let some3 := assembling [0xA5#8, 0#8, 3#8] 0
    (full.held = false ∧ receiving full = true ∧ 256 ≤ bytesHeld full.dlp ∧ ¬(6 ≤ full.dlp.quiet ∨ full.dlp.quiet = 5)) ∧
      (receiving base = false ∧ receiving (linkIs .settling base) = false) ∧
      ((assembling [0xA5#8] 252).dlp.quiet < 6 ∧ 256 ≤ bytesHeld { (assembling [0xA5#8] 252).dlp with assembly := none } ∧
        bytesHeld { full.dlp with assembly := none } < 256 ∧ 6 ≤ { full.dlp with quiet := 6 }.quiet) ∧
      (receiving some3 = true ∧ bytesHeld some3.dlp < 256 ∧ some3.dlp.assembly = some [0xA5#8, 0#8, 3#8] ∧
        3 = 3 + (([0xA5#8, 0#8, 3#8] : List Byte).getD 1 0#8).toNat ∧ crc8 (([0xA5#8, 0#8, 3#8] : List Byte).drop 1) ≠ 0x08#8 ∧
        crc8 (([0xA5#8, 0#8, 3#8] : List Byte).drop 1) = 0x09#8) ∧
      (([0xA5#8] : List Byte).length = 1 ∧ 128 < (129#8).toNat ∧ ¬128 < (128#8).toNat) ∧
      ((linkIs .up base).dlp.assembly = none ∧ receiving (linkIs .up base) = true) := by decide +kernel

theorem witness_ReadingCommandsAnswerWithTheirRecords :
    dockAsks 0x01#8 [8#8] [] (asks 0x01#8 [8#8] (queued base)) ∧ dockAsks 0x02#8 [4#8] [] (asks 0x02#8 [4#8] base) ∧
      dockAsks 0x03#8 [] [] (asks 0x03#8 [] base) ∧ dockAsks 0x1C#8 [] [] (asks 0x1C#8 [] base) ∧ gatewayAsks (gatewayHeader 1) base ∧
      base.kq.snapshot = none ∧ 4 < (5#8).toNat ∧ 3 < (4#8).toNat ∧
      base.crm.live.length = 16 ∧ base.axl.install.lines.length = 4 ∧ base.axl.lines.length = 4 := by
  unfold dockAsks gatewayAsks addressed; decide +kernel

/-- The longest payload that sixteen segments carry. -/
theorem witness_ReplySegmentsCarryThePayload :
    (List.replicate 143 0#8).length ≤ 143 ∧ (replySegments 1#8 .ok (List.replicate 143 0#8)).length = 16 := by decide +kernel

theorem witness_NoticeCommandsActOnTheirOwnPort :
    dockAsks 0x04#8 [31#8, 255#8] [] (asks 0x04#8 [31#8, 255#8] base) ∧ (31#8).toNat < 32 ∧ ¬(32#8).toNat < 32 ∧
      dockAsks 0x05#8 [31#8, 255#8] [] (asks 0x05#8 [31#8, 255#8] base) ∧ gatewayAsks (gatewayHeader 1) base ∧
      (let s := base.setVp { base.vp with mask := 0#16 }
       gatewayAsks (gatewayHeader 1) s ∧ s.vp.notices &&& s.vp.mask = 0 ∧ s.vp.notices &&& ((31#8 : Byte) ++ (255#8 : Byte)) ≠ 0) := by
  unfold dockAsks gatewayAsks addressed; decide +kernel

theorem witness_RouteCommandsWriteTheClassMap :
    (dockAsks 0x10#8 [15#8, 4#8, 0#8] [] (asks 0x10#8 [15#8, 4#8, 0#8] base) ∧ base.sst.configLock = false ∧
        base.crm.live.length = 16 ∧ base.crm.shadow = none ∧ (classEntry base.crm.live 15).locked = false) ∧
      (gatewayAsks (gatewayHeader 1) base ∧ (15#8).toNat ≤ 15 ∧ gatewayAsks (gatewayHeader 1) (base.setCrm { base.crm with shadow := some base.crm.live })) ∧
      (gatewayAsks (gatewayHeader 1) (lockIs .engaged (holds 14 tabletOwns base)) ∧ (classEntry base.crm.live 14).exempt = true) ∧
      15 < (16#8).toNat ∧ 4 < (5#8).toNat ∧ 1 < (2#8).toNat ∧
      gatewayAsks (gatewayHeader 1) (lockIs .engaging (holds 0 tabletOwns base)) := by
  unfold dockAsks gatewayAsks addressed; decide +kernel

theorem witness_EditLockAndResetCommandsAnswer :
    gatewayAsks (gatewayHeader 1) base ∧ base.crm.shadow = none ∧
      (let s := lockIs .engaged (base.setCrm { base.crm with shadow := some base.crm.live })
       gatewayAsks (gatewayHeader 1) s ∧ s.crm.shadow = some base.crm.live ∧ s.mlu.lockout = .engaged ∧ mapsWhole s = true ∧ coveredCount s = 0) ∧
      (let new := base.crm.live.map fun e => { e with exempt := false, repeats := !e.repeats }
       let s := (holds 14 tabletOwns base).setCrm { base.crm with shadow := some new }
       gatewayAsks (gatewayHeader 1) (lockIs .engaged s) ∧ gatewayAsks (gatewayHeader 1) (lockIs .engaging s) ∧
         (classEntry new 14).exempt ≠ (classEntry base.crm.live 14).exempt ∧
         (classEntry new 14).repeats ≠ (classEntry base.crm.live 14).repeats) := by
  unfold gatewayAsks addressed; decide +kernel

/-- The SET_KEY arguments of site 7 with a class, at the edges of the threshold and the hysteresis. -/
def keyArgs (on : Bool) (cls : Byte) : List Byte := [byte 7, flag on, 9#8, cls] ++ word 1023 ++ word 1019

theorem witness_SiteCommandsWriteRecordsAndTrims :
    (let s := asks 0x11#8 (keyArgs false 14#8) (parked (holds 0 tabletOwns base))
     dockAsks 0x11#8 (keyArgs false 14#8) [] s ∧ s.sst.configLock = false ∧ s.mlu.motion = .parked ∧
       s.kfs.records[7]? = some (siteRecord s 7) ∧ s.kq.quals[7]? = some (siteQual s 7) ∧ 1019 + 4 ≤ 1023 ∧
       (siteRecord s 7).enabled = true ∧ (siteQual s 7).state = .pressed) ∧
      (siteRecord base 84).enabled = false ∧
      (let args := [96#8, 1#8, 9#8, 0#8] ++ word 60 ++ word 20
       dockAsks 0x11#8 args [] (asks 0x11#8 args (parked base)) ∧ 95 < (96#8).toNat ∧ ¬95 < (95#8).toNat) ∧
      (let args := [byte 95] ++ word (0xFE00#16 : BitVec 16).toNat ++ word (2047#16 : BitVec 16).toNat
       dockAsks 0x12#8 args [] (asks 0x12#8 args (parked base)) ∧ (0xFE00#16 : BitVec 16).toInt = -512 ∧
         base.kfs.records[95]? = some (siteRecord base 95) ∧ (siteQual base 95).state = .off ∧ (siteQual base 7).state ≠ .off) := by
  unfold dockAsks; decide +kernel

theorem witness_SettingCommandsReplaceTheirSettings :
    let noGuard := { defaultQualify with guardThr := 0 }
    let cal : TouchCal := { xmin := 0, xmax := 256, ymin := 3839, ymax := 4095 }
    (dockAsks 0x13#8 (qualifyBytes noGuard) [] (asks 0x13#8 (qualifyBytes noGuard) (parked base)) ∧ base.sst.configLock = false ∧
        (parked base).mlu.motion = .parked ∧ qualifyInRange noGuard = true ∧ base.kq.settings.guardThr ≠ 0) ∧
      (let args := [8#8, 1#8, 7#8, 4#8, 12#8, 4#8] ++ word 1023 ++ word 1023
       dockAsks 0x13#8 args [] (asks 0x13#8 args (parked base)) ∧ 1 ≤ (4#8).toNat ∧ (4#8).toNat ≤ 4) ∧
      (dockAsks 0x14#8 (word 249 ++ [200#8]) [] (asks 0x14#8 (word 249 ++ [200#8]) base) ∧ 249 < 250) ∧
      (let off : TouchCal := { xmin := 0, xmax := 255, ymin := 0, ymax := 4095 }
       dockAsks 0x17#8 (calBytes off) [] (asks 0x17#8 (calBytes off) base) ∧ off.xmax < off.xmin + 256) ∧
      dockAsks 0x14#8 (word 1000 ++ [byte 20]) [] (asks 0x14#8 (word 1000 ++ [byte 20]) base) ∧
      dockAsks 0x15#8 [255#8] [] (asks 0x15#8 [255#8] base) ∧
      (dockAsks 0x17#8 (calBytes cal) [] (asks 0x17#8 (calBytes cal) base) ∧ cal.ymax ≤ 4095 ∧ cal.ymin + 256 ≤ cal.ymax) ∧
      dockAsks 0x1B#8 [95#8] [] (asks 0x1B#8 [95#8] base) ∧ dockAsks 0x1B#8 [96#8] [] (asks 0x1B#8 [96#8] base) := by
  unfold dockAsks; decide +kernel

theorem witness_SetInstallReplacesTheInstallation :
    let twice := { reverseLine with lines := List.replicate 4 { mode := .inputLow, function := .reverse } }
    (dockAsks 0x18#8 (installBytes reverseLine) [] (asks 0x18#8 (installBytes reverseLine) (parked base)) ∧
        base.sst.configLock = false ∧ (parked base).mlu.motion = .parked ∧ reverseLine.base ≤ 0x7FB ∧
        reverseLine.lines.length = 4 ∧ linesLegal reverseLine.lines = true ∧ base.axl.lines.length = 4 ∧
        base.axl.install.lines.length = 4) ∧
      (dockAsks 0x18#8 (installBytes twice) [] (asks 0x18#8 (installBytes twice) (parked base)) ∧ twice.lines.length = 4 ∧
        linesLegal twice.lines = false) ∧
      lockoutLaw (parked base) = true ∧
      (let args := installBytes { reverseLine with base := 0x7FC }
       dockAsks 0x18#8 args [] (asks 0x18#8 args (parked base)) ∧ args.length = 15 ∧
         0x7FB < (args.getD 0 0#8).toNat * 256 + (args.getD 1 0#8).toNat) := by
  unfold dockAsks; decide +kernel

theorem witness_SaveTakesACopyOfTheSettings :
    (dockAsks 0x19#8 [] [] (asks 0x19#8 [] (parked base)) ∧ base.sst.configLock = false ∧ (parked base).mlu.motion = .parked ∧
        base.sst.save = none) ∧
      (dockAsks 0x19#8 [] [] (asks 0x19#8 [] (parked (saves 1 base))) ∧ (saves 1 base).sst.save.isSome = true) ∧
      gatewayAsks (gatewayHeader 1) base ∧ gatewayAsks (gatewayHeader 1) (saves 1 base) := by
  unfold dockAsks gatewayAsks addressed; decide +kernel

theorem witness_PageWritesFillTheImage :
    ∀ n ∈ [1, 16, 17], (saves n base).held = false ∧ imageLaw (saves n base) = true ∧
      ((saves n base).sst.save.map fun w => (w.write, w.timer.due (saves n base).clock)) = some (n, true) := by decide +kernel

theorem witness_SavedSettingsLoadBack :
    settingsLegal factorySettings = true ∧ settingsLegal { factorySettings with install := reverseLine } = true ∧
      Memory.wf [] = true := by decide +kernel

theorem witness_LoadPutsTheImageInPlace :
    let s := asks 0x1A#8 [] (parked base)
    dockAsks 0x1A#8 [] [] s ∧ s.sst.configLock = false ∧ s.mlu.motion = .parked ∧ s.kfs.records.length = 96 ∧
      s.kq.quals.length = 96 ∧ s.sst.save = none ∧ (saves 1 s).sst.save.isSome = true ∧ (loadImage s.sst.image).replaced = true ∧
      (siteQual s 7).trim = none ∧ tableLaw s = true := by
  unfold dockAsks; decide +kernel

/-- A held site that the load disables, one that it enables, and a map that it changes, with the lockout's law holding. -/
theorem witness_LoadPutsTheImageInPlace_sites :
    let s1 := setSiteRecord 84 { siteRecord base 84 with enabled := true } (setSiteRecord 3 { siteRecord base 3 with enabled := false } base)
    let s2 := setSiteQual 84 { siteQual base 84 with state := .pressed, pressTime := some 0 } s1
    let s := parked (s2.setCrm { s2.crm with live := s2.crm.live.map fun e => { e with repeats := false } })
    let l := loadImage s.sst.image
    lockoutLaw s = true ∧ (siteRecord s 84).enabled = true ∧ (l.settings.sites.getD 84 (defaultSite 84)).enabled = false ∧
      (siteQual s 84).state = .pressed ∧ (siteRecord s 3).enabled = false ∧
      (l.settings.sites.getD 3 (defaultSite 3)).enabled = true ∧ (classEntry l.settings.classes 0).repeats = true := by decide +kernel

theorem witness_RefusedCommandsAnswerAndChangeNothing :
    dockAsks 0x46#8 [] [] (asks 0x46#8 [] base) ∧ dockAsks 0x02#8 [] [] (asks 0x02#8 [] base) ∧ gatewayAsks (gatewayHeader 1) base ∧
      ((replying [[]] false base).held = false ∧ (replying [[]] false base).vp.heldOff = false ∧
        (replying [[]] false base).vp.reply = some { rest := [[]], resets := false }) ∧
      base.dlp.frames.head? ≠ some { type := 0x02#8, payload := [] } ∧
      (namesNoCommand .tablet 0x1D#8 = true ∧ dockAsks 0x1D#8 [] [] (asks 0x1D#8 [] base)) ∧ namesNoCommand .gateway 0x01#8 = true ∧
      (dockAsks 0x19#8 [] [] (asks 0x19#8 [] (locked base)) ∧ (locked base).sst.configLock = true) ∧
      (base.sst.configLock = false ∧ base.mlu.motion ≠ .parked) := by
  unfold dockAsks gatewayAsks addressed; decide +kernel

theorem witness_LocksOutlastEverythingButAFullReset :
    let s := (locked base).setMlu { base.mlu with mode := .onLocked }
    (∃ t, exec (.loadSettings .dockLink []) s = .next t) ∧ (∃ t, exec .busOff s = .next t) ∧
      (s.vp.reply.all fun r => !r.resets) = true ∧ s.sst.configLock = true ∧ s.mlu.mode = .onLocked :=
  ⟨⟨_, rfl⟩, ⟨_, rfl⟩, by decide +kernel⟩

/-! A held key, a queued report, a lockout, a switch of the display and a save, each met by a command that acts on it. -/

theorem witness_StepKeepsQueueAndPortLaws :
    let s := { linkIs .up (online ((holds 0 bothOwn base).setTq { base.tq with reports := [press 1], reserved := 1 } |>.setGq
      { base.gq with reports := [press 1], reserved := 1 })) with pending := [.silenceExpiry false] }
    (queueLaw s && seqLaw s) = true ∧ portLaw s = true ∧ ∃ t, step s = .next t :=
  ⟨by decide +kernel, by decide +kernel, ⟨_, rfl⟩⟩

theorem witness_StepKeepsEntriesWithHeldSources :
    let s := { touches (holds 0 bothOwn base) with pending := [.scanCompletion 0 (flat 0)] }
    tableLaw s = true ∧ ∃ t, step s = .next t := ⟨by decide +kernel, ⟨_, rfl⟩⟩

theorem witness_StepKeepsTheLockoutLaw :
    let s := { lockIs .engaging (holds 0 tabletOwns base) with pending := [.graceExpiry] }
    lockoutLaw s = true ∧ ∃ t, step s = .next t := ⟨by decide +kernel, ⟨_, rfl⟩⟩

theorem witness_StepKeepsDisplayAndCapLaws :
    let s := { base.setDss { base.dss with target := .gateway, hold := true, settle := some (ranOut 40) } with pending := [.settleExpiry] }
    (displayLaw s && capLaw s) = true ∧ ∃ t, step s = .next t := ⟨by decide +kernel, ⟨_, rfl⟩⟩

theorem witness_StepKeepsTheImageLaw :
    let s := { saves 2 base with pending := [.pageWriteEnd false] }
    saveLaw s = true ∧ ∃ t, step s = .next t := ⟨by decide +kernel, ⟨_, rfl⟩⟩

theorem witness_StepKeepsSettingsInRange :
    let s := { base with pending := [.scanStart] }
    (tableLaw s && mapsWhole s && touchClassLaw s && siteSettingsLaw s) = true ∧ otherSettingsLaw s = true ∧ ∃ t, step s = .next t :=
  ⟨by decide +kernel, by decide +kernel, ⟨_, rfl⟩⟩

/-- The counters at their highest value, and a full receive buffer. -/
theorem witness_StepKeepsBufferAndCountersBounded :
    let s := { (assembling [0xA5#8] 251).setVp { base.vp with commandDrops := 65535 } with
      clock := 65535, pending := [.dockLinkByteReceived 0#8 false] }
    (bufferLaw s && counterLaw s) = true ∧ ∃ t, step s = .next t := ⟨by decide +kernel, ⟨_, rfl⟩⟩

theorem witness_PinsAndSlotsFollowEveryCommand :
    (∃ t, exec .timebaseTick base = .next t) ∧ (∃ t, exec .supplyRestored (base.setHeld true) = .next t) ∧
      (base.setHeld true).held = true ∧
      (let s := (queued base).setVp { base.vp with
         reportSlot := some (sentAt 3 .flexible [1#8, 0#8, 0#8, 1#8, 0#8, 0#8, 7#8, 0#8, 0#8, 0#8, 0#8, 0#8]), statusDue := false }
       headLaw s = true ∧ s.gq.headHeld = true) ∧
      (let s := base.setVp { base.vp with statusDue := false, heldOff := true }
       slotLaw s = true ∧ s.vp.reportSlot = none ∧ headLaw s = true) :=
  ⟨⟨_, rfl⟩, ⟨_, rfl⟩, rfl, by decide +kernel, by decide +kernel⟩

end Sys2Proof.Tests
end

/-! SUPPORT. The key qualification family: what `correctedCount` and `scaleAxis` compute on each side of their clamps, the rows of
`stateUpdate`, and the obligations that rest on them. -/

namespace Sys2Proof.Machine

/-! ### The corrected count (R30) -/

theorem correctedCount_of_sum_nonpos {raw gain : Nat} {offset : Int} (h : (raw : Int) + offset ≤ 0) :
    correctedCount raw offset gain = 0 := if_pos h

theorem correctedCount_of_sum_pos {raw gain : Nat} {offset : Int} (h : 0 < (raw : Int) + offset) :
    correctedCount raw offset gain = min (((raw : Int) + offset).toNat * (1024 + gain) / 2048) 4095 :=
  if_neg (Int.not_le.mpr h)

theorem correctedCount_le (raw gain : Nat) (offset : Int) : correctedCount raw offset gain ≤ 4095 := by
  by_cases hsum : (raw : Int) + offset ≤ 0
  · rw [correctedCount_of_sum_nonpos hsum]
    decide
  · rw [correctedCount_of_sum_pos (Int.not_le.mp hsum)]
    exact Nat.min_le_right _ _

theorem natCast_min_of_natCast_eq {n bound : Nat} {x : Int} (h : (n : Int) = x) : ((min n bound : Nat) : Int) = min x bound := by
  subst h
  rcases Nat.le_total n bound with hle | hle
  · rw [Nat.min_eq_left hle]
    exact (Int.min_eq_left (Int.ofNat_le.mpr hle)).symm
  · rw [Nat.min_eq_right hle]
    exact (Int.min_eq_right (Int.ofNat_le.mpr hle)).symm

/-- R30's quotient over the integers: the sum is positive, so the two roundings agree. -/
theorem correctedCount_eq_min_fdiv {raw gain : Nat} {offset : Int} (h : 0 < (raw : Int) + offset) :
    (correctedCount raw offset gain : Int) = min ((((raw : Int) + offset) * (1024 + gain)).fdiv 2048) 4095 := by
  have hquot : ((((raw : Int) + offset).toNat * (1024 + gain) / 2048 : Nat) : Int) =
      (((raw : Int) + offset) * (1024 + gain)).fdiv 2048 := by
    rw [Int.fdiv_eq_ediv_of_nonneg _ (by decide), Int.natCast_ediv, Int.natCast_mul,
      Int.toNat_of_nonneg (Int.le_of_lt h), Int.natCast_add]
    rfl
  rw [correctedCount_of_sum_pos h]
  exact natCast_min_of_natCast_eq hquot

/-! ### The scaled touch coordinate (R146) -/

theorem clampInt_le {lo hi : Int} (x : Int) (h : lo ≤ hi) : clampInt lo hi x ≤ hi :=
  Int.max_le.mpr ⟨h, Int.min_le_left _ _⟩

theorem clampInt_of_le {lo hi x : Int} (hx : x ≤ lo) : clampInt lo hi x = lo :=
  Int.max_eq_left (Int.le_trans (Int.min_le_right _ _) hx)

theorem clampInt_of_ge {lo hi x : Int} (hx : hi ≤ x) (h : lo ≤ hi) : clampInt lo hi x = hi :=
  (congrArg (max lo) (Int.min_eq_left hx)).trans (Int.max_eq_right h)

theorem clampInt_of_mem {lo hi x : Int} (hlo : lo ≤ x) (hhi : x ≤ hi) : clampInt lo hi x = x :=
  (congrArg (max lo) (Int.min_eq_right hhi)).trans (Int.max_eq_right hlo)

theorem scaleAxis_le (raw lo hi : Nat) : scaleAxis raw lo hi ≤ 4095 :=
  Int.toNat_le.mpr (clampInt_le _ (by decide))

section
variable {raw lo hi : Nat} (hspan : lo < hi)
include hspan

theorem scaleAxis_of_le_low (h : raw ≤ lo) : scaleAxis raw lo hi = 0 := by
  have hquot : (((raw : Int) - lo) * 4095).fdiv ((hi : Int) - lo) ≤ 0 := by
    rw [Int.fdiv_eq_ediv_of_nonneg _ (by omega)]
    exact Int.ediv_nonpos_of_nonpos_of_neg (by omega) (by omega)
  rw [scaleAxis, clampInt_of_le hquot]
  rfl

/-- At or above the low end the integer quotient of R146 is the quotient of the natural numbers. -/
theorem axisQuotient_of_low_le (h : lo ≤ raw) :
    (((raw : Int) - lo) * 4095).fdiv ((hi : Int) - lo) = ((raw - lo) * 4095 / (hi - lo) : Nat) := by
  rw [Int.fdiv_eq_ediv_of_nonneg _ (by omega), Int.natCast_ediv, Int.natCast_mul, Int.natCast_sub h,
    Int.natCast_sub (Nat.le_of_lt hspan)]
  rfl

theorem scaleAxis_of_high_le (h : hi ≤ raw) : scaleAxis raw lo hi = 4095 := by
  have hquot : 4095 ≤ (raw - lo) * 4095 / (hi - lo) := by
    rw [Nat.le_div_iff_mul_le (by omega)]
    omega
  rw [scaleAxis, axisQuotient_of_low_le hspan (by omega), clampInt_of_ge (by omega) (by decide)]
  rfl

theorem scaleAxis_of_mem (hlo : lo ≤ raw) (hhi : raw ≤ hi) : scaleAxis raw lo hi = (raw - lo) * 4095 / (hi - lo) := by
  have hquot : (raw - lo) * 4095 / (hi - lo) ≤ 4095 := Nat.div_le_of_le_mul (by omega)
  rw [scaleAxis, axisQuotient_of_low_le hspan hlo,
    clampInt_of_mem (Int.natCast_nonneg _) (by omega), Int.toNat_natCast]

end

/-- Settles O9: each side of the clamps is a case of `correctedCount` or `scaleAxis`; the calibration's span of 256 is used only in
that it is not 0. -/
theorem measurementsAreScaledAndClamped : Obligations.MeasurementsAreScaledAndClamped := by
  constructor
  · intro raw gain offset hraw hlow hhigh _
    exact ⟨⟨by omega, by omega⟩, correctedCount_le .., correctedCount_of_sum_nonpos, correctedCount_eq_min_fdiv⟩
  · intro raw lo hi _ hcal _
    have hspan : lo < hi := by omega
    exact ⟨scaleAxis_le .., scaleAxis_of_le_low hspan, scaleAxis_of_high_le hspan, scaleAxis_of_mem hspan⟩

/-! ### The key state machine (R34, R35) -/

section
variable {set : QualifySettings} {now : Nat} {rejected : Bool} {r : SiteRecord} {q : SiteQual} {d : Int} {thr : Nat}

theorem stateUpdate_idle_stays (hq : q.state = .idle) (h : rejected = true ∨ d < thr) :
    stateUpdate set now rejected r q d thr = (q, none) := by
  simp only [stateUpdate, hq, Bool.or_eq_true, decide_eq_true_eq, h, if_true]

theorem stateUpdate_idle_passes (hq : q.state = .idle) (hr : rejected = false) (hd : d ≥ thr) :
    stateUpdate set now rejected r q d thr =
      if set.np ≤ 1 then (pressSite now q, some .press) else ({ q with state := .candidate, debounce := 1 }, none) := by
  simp only [stateUpdate, hq, hr, Bool.false_or, decide_eq_true_eq, Int.not_lt.mpr hd, if_false]

theorem stateUpdate_candidate_falls_back (hq : q.state = .candidate) (h : rejected = true ∨ d < thr) :
    stateUpdate set now rejected r q d thr = ({ q with state := .idle, debounce := 0 }, none) := by
  simp only [stateUpdate, hq, Bool.or_eq_true, decide_eq_true_eq, h, if_true]

theorem stateUpdate_candidate_passes (hq : q.state = .candidate) (hr : rejected = false) (hd : d ≥ thr) :
    stateUpdate set now rejected r q d thr =
      if q.debounce + 1 ≥ set.np then (pressSite now q, some .press) else ({ q with debounce := q.debounce + 1 }, none) := by
  simp only [stateUpdate, hq, hr, Bool.false_or, decide_eq_true_eq, Int.not_lt.mpr hd, if_false]

theorem stateUpdate_pressed_stays (hq : q.state = .pressed) (hd : d ≥ (r.thr : Int) - r.hyst) :
    stateUpdate set now rejected r q d thr = (q, none) := by
  simp only [stateUpdate, hq, Int.not_lt.mpr hd, decide_false, Bool.not_false, if_true]

theorem stateUpdate_pressed_drops (hq : q.state = .pressed) (hd : d < (r.thr : Int) - r.hyst) :
    stateUpdate set now rejected r q d thr =
      if set.nr ≤ 1 then (releaseSite q, some .release) else ({ q with state := .releasing, debounce := 1 }, none) := by
  simp only [stateUpdate, hq, hd, decide_true, Bool.not_true, Bool.false_eq_true, if_false]

theorem stateUpdate_releasing_recovers (hq : q.state = .releasing) (hd : d ≥ (r.thr : Int) - r.hyst) :
    stateUpdate set now rejected r q d thr = ({ q with state := .pressed, debounce := 0 }, none) := by
  simp only [stateUpdate, hq, Int.not_lt.mpr hd, decide_false, Bool.not_false, if_true]

theorem stateUpdate_releasing_drops (hq : q.state = .releasing) (hd : d < (r.thr : Int) - r.hyst) :
    stateUpdate set now rejected r q d thr =
      if q.debounce + 1 ≥ set.nr then (releaseSite q, some .release) else ({ q with debounce := q.debounce + 1 }, none) := by
  simp only [stateUpdate, hq, hd, decide_true, Bool.not_true, Bool.false_eq_true, if_false]

end

/-- Settles O10, row by row: the rows that compare with Np or Nr split on that comparison. -/
theorem keyStateMachineRows : Obligations.KeyStateMachineRows := by
  intro set now rejected r q d thr
  refine ⟨stateUpdate_idle_stays, ?idle, stateUpdate_candidate_falls_back, ?candidate, stateUpdate_pressed_stays, ?pressed,
    stateUpdate_releasing_recovers, ?releasing⟩
  case idle =>
    intro hq hr hd
    rw [stateUpdate_idle_passes hq hr hd]
    exact ⟨fun hnp => if_pos hnp, fun hnp => if_neg (by omega)⟩
  case candidate =>
    intro hq hr hd
    rw [stateUpdate_candidate_passes hq hr hd]
    exact ⟨fun hrun => if_pos hrun, fun hrun => if_neg (by omega)⟩
  case pressed =>
    intro hq hd
    rw [stateUpdate_pressed_drops hq hd]
    exact ⟨fun hnr => if_pos hnr, fun hnr => if_neg (by omega)⟩
  case releasing =>
    intro hq hd
    rw [stateUpdate_releasing_drops hq hd]
    exact ⟨fun hrun => if_pos hrun, fun hrun => if_neg (by omega)⟩

end Sys2Proof.Machine

/-! SUPPORT. The press gates family: which masters each gate of 3.4 lets through, and the obligation that rests on them. -/

namespace Sys2Proof.Machine

/-! ### The route gate (R69) -/

theorem routeGate_tablet_iff (s : State) (route : Route) :
    (routeGate s route).tablet = true ↔
      route = .tablet ∨ route = .both ∨ (route = .follow ∧ s.dss.settle = none ∧ s.dss.current = .tablet) := by
  cases route <;> simp [routeGate]

theorem routeGate_gateway_iff (s : State) (route : Route) :
    (routeGate s route).gateway = true ↔
      route = .gateway ∨ route = .both ∨ (route = .follow ∧ s.dss.settle = none ∧ s.dss.current = .gateway) := by
  cases route <;> simp [routeGate]

/-! ### The lockout gate (R70) -/

theorem lockoutInEffect_iff (s : State) :
    lockoutInEffect s = true ↔ s.mlu.lockout = .engaging ∨ s.mlu.lockout = .engaged := by
  unfold lockoutInEffect
  cases s.mlu.lockout <;> decide

section
variable {s : State} {e : ClassEntry}

theorem lockoutGate_locked (h : lockoutInEffect s = true ∧ e.exempt = false) (o : Owners) :
    lockoutGate s e o = { tablet := false, gateway := o.gateway || (o.tablet && e.divert) } := by
  simp [lockoutGate, h]

theorem lockoutGate_passes (h : ¬(lockoutInEffect s = true ∧ e.exempt = false)) (o : Owners) : lockoutGate s e o = o :=
  if_neg (by simpa using h)

end

theorem lockoutGate_tablet_iff (s : State) (e : ClassEntry) (o : Owners) :
    (lockoutGate s e o).tablet = true ↔ o.tablet = true ∧ ¬(lockoutInEffect s = true ∧ e.exempt = false) := by
  by_cases h : lockoutInEffect s = true ∧ e.exempt = false
  · simp [lockoutGate_locked h, h]
  · simp only [lockoutGate_passes h, h, not_false_eq_true, and_true]

theorem lockoutGate_gateway_iff (s : State) (e : ClassEntry) (o : Owners) :
    (lockoutGate s e o).gateway = true ↔
      o.gateway = true ∨ ((lockoutInEffect s = true ∧ e.exempt = false) ∧ o.tablet = true ∧ e.divert = true) := by
  by_cases h : lockoutInEffect s = true ∧ e.exempt = false
  · simp [lockoutGate_locked h, h]
  · simp only [lockoutGate_passes h, h, false_and, or_false]

/-! ### The deliverability gate (R71) -/

theorem deliverabilityGate_tablet_iff (s : State) (o : Owners) :
    (deliverabilityGate s o).tablet = true ↔ o.tablet = true ∧ s.dlp.link = .up := by
  simp [deliverabilityGate, deliverable]

theorem deliverabilityGate_gateway_iff (s : State) (o : Owners) :
    (deliverabilityGate s o).gateway = true ↔ o.gateway = true ∧ s.vp.online = true := by
  simp [deliverabilityGate, deliverable]

/-- Settles O14, gate by gate: the gate-3 input is the lockout gate after the route gate, and the offer set is the deliverability
gate after that. -/
theorem offerSetPassesTheThreeGates : Obligations.OfferSetPassesTheThreeGates := by
  intro s cls
  dsimp only
  rw [← routeGate_tablet_iff, ← routeGate_gateway_iff, ← lockoutInEffect_iff]
  exact ⟨Iff.rfl, Iff.rfl, lockoutGate_tablet_iff .., lockoutGate_gateway_iff .., deliverabilityGate_tablet_iff ..,
    deliverabilityGate_gateway_iff ..⟩

end Sys2Proof.Machine

/-! SUPPORT. The motion state family: when the speed rule and the park brake give each result, and the obligation that rests on them. -/

namespace Sys2Proof.Machine

/-! ### The speed rule (R81) -/

theorem speedRule_unknown_iff (previous : Motion) (speed : Option Nat) (p : LockParams) :
    speedRule previous speed p = .unknown ↔ speed = none := by
  cases speed with
  | none => simp [speedRule]
  | some v => cases previous <;> simp only [speedRule] <;> split <;> simp

/-- The two thresholds of the hysteresis: Son bounds the speed of a vehicle that was PARKED, Soff that of any other. -/
theorem speedRule_parked_iff (previous : Motion) (speed : Option Nat) (p : LockParams) :
    speedRule previous speed p = .parked ↔
      ∃ v, speed = some v ∧ (previous = .parked → v < p.son) ∧ (previous ≠ .parked → v ≤ p.soff) := by
  cases speed with
  | none => simp [speedRule]
  | some v => cases previous <;> simp [speedRule]

/-! ### The park brake (R82) -/

theorem brakeApplied_iff (sig : Signals) : brakeApplied sig = true ↔ sig.brake = some true := by
  simp [brakeApplied]

theorem motionResult_unknown_iff (previous : Motion) (sig : Signals) (p : LockParams) :
    motionResult previous sig p = .unknown ↔ speedRule previous sig.speed p = .unknown := by
  unfold motionResult
  cases speedRule previous sig.speed p with
  | parked => dsimp only; split <;> simp
  | moving => simp
  | unknown => simp

theorem motionResult_parked_iff (previous : Motion) (sig : Signals) (p : LockParams) :
    motionResult previous sig p = .parked ↔
      speedRule previous sig.speed p = .parked ∧ (p.brakeRequired = true → brakeApplied sig = true) := by
  unfold motionResult
  cases speedRule previous sig.speed p with
  | parked => simp
  | moving => simp
  | unknown => simp

/-- Settles O23: the reset state and the factory default are read off, and each result of the motion state is traced back to
the speed rule and the park brake. -/
theorem motionFollowsSpeedAndBrake : Obligations.MotionFollowsSpeedAndBrake := by
  refine ⟨⟨rfl, rfl⟩, fun previous sig p => ⟨?unknown, ?parked⟩⟩
  case unknown => rw [motionResult_unknown_iff, speedRule_unknown_iff]
  case parked => rw [motionResult_parked_iff, speedRule_parked_iff, brakeApplied_iff]

end Sys2Proof.Machine

/-! SUPPORT. The report queues family: what each offer makes of a queue, what a run of removals leaves, and the obligation that rests
on them. -/

namespace Sys2Proof.Machine

/-! ### Appending (R122, R123, R125, R127) -/

@[simp] theorem Queue.append_reports (q : Queue) (r : Report) :
    (q.append r).reports = q.reports ++ [{ r with gap := q.gap }] := rfl

@[simp] theorem Queue.append_reserved (q : Queue) (r : Report) : (q.append r).reserved = q.reserved := rfl

@[simp] theorem Queue.room_iff (q : Queue) (capacity need : Nat) :
    q.room capacity need = true ↔ q.reports.length + q.reserved + need ≤ capacity := by
  simp [Queue.room]

/-! ### Offers of press-type reports, repeats and releases (R122, R124 to R126) -/

section
variable {q : Queue} {capacity : Nat}

theorem admitsPress_iff :
    admitsPress capacity q = true ↔ q.draining = false ∧ q.reports.length + q.reserved + 2 ≤ capacity := by
  simp [admitsPress]

theorem offerPress_eq (r : Report) :
    q.offerPress capacity r = (afterPress true capacity r q, admitsPress capacity q) := by
  rcases offerPress_cases q capacity r with ⟨hdrain, hroom, heq⟩ | ⟨hrefused, heq⟩
  · simp [heq, afterPress, admitsPress_iff.mpr ⟨hdrain, hroom⟩]
  · have hnot : admitsPress capacity q = false := by
      rw [← Bool.not_eq_true, admitsPress_iff]
      rintro ⟨hdrain, hroom⟩
      rcases hrefused with h | h
      · simp [hdrain] at h
      · omega
    simp [heq, afterPress, hnot, bump, Config.counterMax]

/-- An admitted press takes two places, for itself and for its release; a refused one takes none. -/
theorem afterPress_fits (r : Report) (h : q.reports.length + q.reserved ≤ capacity) :
    (afterPress true capacity r q).reports.length + (afterPress true capacity r q).reserved ≤ capacity := by
  cases hadmit : admitsPress capacity q with
  | false => simpa [afterPress, hadmit] using h
  | true =>
    have hroom := (admitsPress_iff.mp hadmit).2
    simp only [afterPress, hadmit, if_true, List.length_append, List.length_singleton]
    omega

theorem offerRepeat_admitted (r : Report) (hdrain : q.draining = false)
    (hroom : q.reports.length + q.reserved + 1 ≤ capacity) : q.offerRepeat capacity r = (q.append r, true) := by
  simp [Queue.offerRepeat, hdrain, hroom]

theorem offerRepeat_refused (r : Report)
    (h : q.draining = true ∨ capacity < q.reports.length + q.reserved + 1) : q.offerRepeat capacity r = (q, false) := by
  refine if_neg ?_
  rw [Bool.and_eq_true, Bool.not_eq_true', Queue.room_iff]
  rintro ⟨hdrain, hroom⟩
  rcases h with h | h
  · simp [hdrain] at h
  · omega

theorem append_fits (r : Report) (h : q.reports.length + q.reserved + 1 ≤ capacity) :
    (q.append r).reports.length + (q.append r).reserved ≤ capacity := by
  rw [Queue.append_reports, Queue.append_reserved, List.length_append, List.length_singleton]
  omega

theorem offerRepeat_fits (r : Report) (h : q.reports.length + q.reserved ≤ capacity) :
    (q.offerRepeat capacity r).1.reports.length + (q.offerRepeat capacity r).1.reserved ≤ capacity := by
  by_cases hadmit : q.draining = false ∧ q.reports.length + q.reserved + 1 ≤ capacity
  · rw [offerRepeat_admitted r hadmit.1 hadmit.2]
    exact append_fits r hadmit.2
  · rw [offerRepeat_refused r (by simpa [Classical.or_iff_not_imp_left] using hadmit)]
    exact h

theorem offerRelease_eq (r : Report) : q.offerRelease r = afterRelease true r q := rfl

/-- A release takes the place that was reserved for it (R124). -/
theorem offerRelease_fits (r : Report) (hreserved : 1 ≤ q.reserved) (h : q.reports.length + q.reserved ≤ capacity) :
    (q.offerRelease r).reports.length + (q.offerRelease r).reserved ≤ capacity := by
  simp only [Queue.offerRelease, Queue.append_reports, Queue.append_reserved, List.length_append, List.length_singleton]
  omega

end

/-! ### Offers of moves (R123) -/

/-- The tail takes the move in: it is a TOUCH_MOVE of the move's number, and the report slot does not hold it. -/
def Queue.TakesMove (q : Queue) (r : Report) : Prop :=
  (∃ tail, q.reports.getLast? = some tail ∧ tail.kind = .touchMove ∧ tail.seq = r.seq) ∧
    (q.headHeld = false ∨ q.reports.length ≠ 1)

theorem tailHeld_eq_false_iff (q : Queue) : q.tailHeld = false ↔ q.headHeld = false ∨ q.reports.length ≠ 1 := by
  simp [Queue.tailHeld, Classical.or_iff_not_imp_left]

theorem coalesces_iff (tail r : Report) : coalesces tail r = true ↔ tail.kind = .touchMove ∧ tail.seq = r.seq := by
  simp [coalesces]

section
variable {q : Queue} {capacity : Nat} {r : Report}

theorem offerMove_coalesced {tail : Report} (hlast : q.reports.getLast? = some tail) (h : q.TakesMove r) :
    q.offerMove capacity r = q.coalesce tail r := by
  obtain ⟨⟨tail', hlast', hkind, hseq⟩, hfree⟩ := h
  obtain rfl : tail = tail' := Option.some.inj (hlast.symm.trans hlast')
  simp [Queue.offerMove, hlast, (coalesces_iff tail r).mpr ⟨hkind, hseq⟩, (tailHeld_eq_false_iff q).mpr hfree]

theorem offerMove_not_coalesced (h : ¬q.TakesMove r) : q.offerMove capacity r = q.appendMove capacity r := by
  unfold Queue.offerMove
  split
  next tail hlast =>
    refine if_neg fun hboth => h ?_
    rw [Bool.and_eq_true, Bool.not_eq_true', coalesces_iff, tailHeld_eq_false_iff] at hboth
    exact ⟨⟨tail, hlast, hboth.1⟩, hboth.2⟩
  next => rfl

theorem appendMove_of_room (h : q.reports.length + q.reserved + 1 ≤ capacity) : q.appendMove capacity r = q.append r :=
  if_pos ((Queue.room_iff ..).mpr h)

theorem appendMove_of_full (h : capacity < q.reports.length + q.reserved + 1) :
    q.appendMove capacity r = { q with moveDrops := bump q.moveDrops } :=
  if_neg fun hroom => Nat.not_le.mpr h ((Queue.room_iff ..).mp hroom)

theorem coalesce_of_append {front : List Report} {tail : Report} (h : q.reports = front ++ [tail]) :
    q.coalesce tail r = { q with reports := front ++ [{ tail with body := r.body, time := r.time }] } := by
  simp [Queue.coalesce, h]

theorem offerMove_fits (h : q.reports.length + q.reserved ≤ capacity) :
    (q.offerMove capacity r).reports.length + (q.offerMove capacity r).reserved ≤ capacity := by
  by_cases htakes : q.TakesMove r
  case pos =>
    obtain ⟨tail, hlast, -, -⟩ := htakes.1
    obtain ⟨front, hfront⟩ := List.getLast?_eq_some_iff.mp hlast
    rw [offerMove_coalesced hlast htakes, coalesce_of_append hfront]
    simpa [hfront] using h
  case neg =>
    rw [offerMove_not_coalesced htakes]
    by_cases hroom : q.reports.length + q.reserved + 1 ≤ capacity
    · rw [appendMove_of_room hroom]
      exact append_fits r hroom
    · rw [appendMove_of_full (Nat.not_le.mp hroom)]
      exact h

end

/-! ### Removal (R128, R129) -/

/-- Draining ends at one of the next `n` removals. -/
def Queue.endsWithin (q : Queue) (half n : Nat) : Bool :=
  q.draining && (1 ≤ n && 1 ≤ q.reports.length && q.reports.length - n ≤ half)

theorem endsWithin_zero (q : Queue) (half : Nat) : q.endsWithin half 0 = false := by
  simp [Queue.endsWithin]

theorem endsWithin_empty {q : Queue} (half n : Nat) (h : q.reports = []) : q.endsWithin half n = false := by
  simp [Queue.endsWithin, h]

/-- Once the occupancy is at half or below it stays there, so the occupancy after the last removal decides. -/
theorem endsWithin_cons {q : Queue} {r : Report} {rest : List Report} (half n : Nat) (h : q.reports = r :: rest) :
    q.endsWithin half (n + 1) =
      (q.draining && rest.length ≤ half || (q.removeHead half).endsWithin half n) := by
  cases hdrain : q.draining with
  | false => simp [Queue.endsWithin, removeHead_eq, hdrain]
  | true =>
    by_cases hnow : rest.length ≤ half
    · have hlast : rest.length - n ≤ half := by omega
      simp [Queue.endsWithin, hdrain, h, hnow, hlast]
    · simp [Queue.endsWithin, removeHead_eq, hdrain, h, hnow]
      omega

theorem take_empty {q : Queue} (half n : Nat) (h : q.reports = []) : q.take half n = (q, []) := by
  cases n <;> simp [Queue.take, h]

theorem take_cons {q : Queue} {r : Report} {rest : List Report} (half n : Nat) (h : q.reports = r :: rest) :
    q.take half (n + 1) = (((q.removeHead half).take half n).1, r :: ((q.removeHead half).take half n).2) := by
  simp [Queue.take, h]

/-- Induction on the number of removals: what the first removal does to draining and to the gap mark, the others only continue. -/
theorem take_eq (q : Queue) (half n : Nat) :
    q.take half n =
      ({ q with
          reports := q.reports.drop n
          draining := q.draining && !q.endsWithin half n
          gap := q.gap || q.endsWithin half n }, q.reports.take n) := by
  induction n generalizing q with
  | zero => simp [Queue.take, endsWithin_zero]
  | succ n ih =>
    cases hreports : q.reports with
    | nil =>
      rw [take_empty half (n + 1) hreports, endsWithin_empty half (n + 1) hreports]
      simp only [List.drop_nil, List.take_nil, Bool.not_false, Bool.and_true, Bool.or_false]
      rw [← hreports]
    | cons r rest =>
      rw [take_cons half n hreports, ih, endsWithin_cons half n hreports]
      simp [removeHead_eq, hreports, Bool.and_assoc, Bool.or_assoc]

/-- Settles O17: each offer is compared with its rule, and the removals are taken one by one. -/
theorem queuesOfferAndRemoveInOrder : Obligations.QueuesOfferAndRemoveInOrder := by
  refine ⟨fun q capacity r hfits => ⟨?press, ?repetition, ?release, ?move⟩, fun q half n => ?removal⟩
  case press =>
    rw [offerPress_eq]
    exact ⟨afterPress_fits r hfits, rfl, rfl⟩
  case repetition => exact ⟨offerRepeat_fits r hfits, offerRepeat_admitted r, offerRepeat_refused r⟩
  case release => exact fun hreserved => ⟨offerRelease_fits r hreserved hfits, offerRelease_eq r⟩
  case move =>
    refine ⟨offerMove_fits hfits, fun tail front hfront htakes => ?_, fun hnot hroom => ?_, fun hnot hfull => ?_⟩
    · have hlast : q.reports.getLast? = some tail := List.getLast?_eq_some_iff.mpr ⟨front, hfront⟩
      exact (offerMove_coalesced hlast htakes).trans (coalesce_of_append hfront)
    · exact (offerMove_not_coalesced hnot).trans (appendMove_of_room hroom)
    · exact (offerMove_not_coalesced hnot).trans (appendMove_of_full hfull)
  case removal =>
    rw [take_eq]
    exact ⟨rfl, rfl⟩

end Sys2Proof.Machine
